-- ==== Sys2Proof/Word.lean ====
section
/-! DEFINITION. The two bit-vector types of the machine: the 8-bit byte and the 16-bit word (00_scope R5, `XLEN8` and
`XLEN16`). Everything computed on them (bit fields, sign extension, byte order) stands in Sys2Proof/Machine/Bits.lean. -/

namespace Sys2Proof

/-- An 8-bit value: A, B, C, D, E, H, L, I, R, a byte of memory (00_scope R5 `XLEN8`). -/
abbrev Byte := BitVec 8

/-- A 16-bit value: PC, SP, IX, IY, the register pairs, a logical address (00_scope R5 `XLEN16`). -/
abbrev Word := BitVec 16

end Sys2Proof
end

