-- ==== Sys2Proof/Machine/Bits.lean ====
section
/-! DEFINITION. Bit fields, byte order, sign extension and parity on bytes and words (00_scope R6, R7; 20_memory R86). -/

namespace Sys2Proof

/-- `v[15:8]` of a word (00_scope R6). -/
def hiByte (w : Word) : Byte := w.extractLsb' 8 8

/-- `v[7:0]` of a word (00_scope R6). -/
def loByte (w : Word) : Byte := w.extractLsb' 0 8

/-- `hi:lo`, concatenation with `hi` in the high bits (00_scope R6). -/
def wordOf (hi lo : Byte) : Word := hi ++ lo

/-- `sext_16`, two's complement sign extension of a byte to a word (00_scope R7). -/
def sext16 (v : Byte) : Word := v.signExtend 16

/-- `trunc8` of a natural number (00_scope R7). -/
def trunc8 (n : Nat) : Byte := BitVec.ofNat 8 n

/-- `trunc16` of a natural number (00_scope R7). -/
def trunc16 (n : Nat) : Word := BitVec.ofNat 16 n

/-- `parity(v)`: true for an even number of 1 bits (00_scope R7). -/
def parity (v : Byte) : Bool :=
  !(v.getLsbD 0 ^^ v.getLsbD 1 ^^ v.getLsbD 2 ^^ v.getLsbD 3 ^^
    v.getLsbD 4 ^^ v.getLsbD 5 ^^ v.getLsbD 6 ^^ v.getLsbD 7)

/-- `v[3:0]` as a number, the operand of the half-carry rules (43_alu8 R322). -/
def lowDigit (v : Byte) : Nat := v.toNat % 16

/-- The byte with bit `b` alone set, `1 << b` (47_bit R465). -/
def bitMask (b : BitVec 3) : Byte := (1 : Byte) <<< b.toNat

/-- `x = op[7:6]` (30_encoding R143). -/
def fieldX (op : Byte) : BitVec 2 := op.extractLsb' 6 2

/-- `y = op[5:3]` (30_encoding R143). -/
def fieldY (op : Byte) : BitVec 3 := op.extractLsb' 3 3

/-- `z = op[2:0]` (30_encoding R143). -/
def fieldZ (op : Byte) : BitVec 3 := op.extractLsb' 0 3

/-- `p = op[5:4]` (30_encoding R143). -/
def fieldP (op : Byte) : BitVec 2 := op.extractLsb' 4 2

/-- `q = op[3]` (30_encoding R143). -/
def fieldQ (op : Byte) : BitVec 1 := op.extractLsb' 3 1

/-- An opcode byte from its fields x, y, z (30_encoding R143). -/
def opXYZ (x : BitVec 2) (y z : BitVec 3) : Byte := x ++ y ++ z

/-- An opcode byte from its fields x, p, q, z (30_encoding R143). -/
def opXPQZ (x p : BitVec 2) (q : BitVec 1) (z : BitVec 3) : Byte := x ++ p ++ q ++ z

end Sys2Proof
end

