-- ==== Sys2Proof/Config.lean ====
section
/-! DEFINITION. What is fixed for one machine (00_scope R5, the parameter table, each field with the default stated there),
and the free values: opaque functions of a draw number about which nothing can be proved (10_state R28; 93 U1 to U4). -/

namespace Sys2Proof

/-- The TV system, a model argument (00_scope R5 `TV`). -/
inductive TvSystem where
  | ntsc
  | pal
  deriving DecidableEq, Repr

/-- `TOTAL_LINES`: 262 if NTSC, 313 if PAL (00_scope R5). -/
def TvSystem.totalLines : TvSystem → Nat
  | .ntsc => 262
  | .pal => 313

/-- What `RETI` does to the interrupt enable flip-flops (48_jump_call_return R498; 90_conflicts C3). -/
inductive RetiIffPolicy where
  | unchanged
  | copyIff2
  | set
  deriving DecidableEq, Repr

/-- When the render hook runs (60_exceptions R634). -/
inductive RenderMode where
  | frame
  | line
  deriving DecidableEq, Repr

/-- `INIT_GPR`: the initial value of the registers for which the spec gives no other (10_state R61).
DESIGN CHOICE: 0x0000 each, the default of 00_scope R5 (log 4). -/
structure InitGpr where
  af : Word := 0
  bc : Word := 0
  de : Word := 0
  hl : Word := 0
  af' : Word := 0
  bc' : Word := 0
  de' : Word := 0
  hl' : Word := 0
  ix : Word := 0
  iy : Word := 0
  sp : Word := 0
  deriving DecidableEq, Repr

/-- `CART_RAM_BANKS`: how many cartridge RAM banks there are on each mapper variant, two of 16 KiB on Sega and one of 8 KiB on
Codemasters (00_scope R5; 10_state R44). What a select bit does that names a bank beyond the count: log 25. -/
structure CartRamBanks where
  sega : Nat := 2
  codemasters : Nat := 1
  deriving DecidableEq, Repr

/-- The parameters of the machine (00_scope R5), constant for a session. -/
structure Config where
  tv : TvSystem := .ntsc
  /-- `ACTIVE_LINES` -/
  activeLines : Nat := 192
  /-- `VDP_CYCLES_PER_LINE` -/
  vdpCyclesPerLine : Nat := 342
  /-- `NMI_VECTOR` -/
  nmiVector : Word := 0x0066
  /-- `IM1_VECTOR` -/
  im1Vector : Word := 0x0038
  /-- `INT_BUS_BYTE`: the byte on the data bus during maskable interrupt acknowledge -/
  intBusByte : Byte := 0xFF
  nmiCost : Nat := 11
  im0Cost : Nat := 13
  im1Cost : Nat := 13
  im2Cost : Nat := 19
  /-- `RETI_IFF_POLICY` -/
  retiIffPolicy : RetiIffPolicy := .unchanged
  /-- `SEGA_CTRL_WRITE_THROUGH`: whether a Sega control write also lands in RAM -/
  segaCtrlWriteThrough : Bool := false
  /-- `CART_RAM_BANKS` -/
  cartRamBanks : CartRamBanks := {}
  /-- `INIT_GPR` -/
  initGpr : InitGpr := {}
  /-- `RENDER_MODE` -/
  renderMode : RenderMode := .frame
  deriving DecidableEq, Repr

/-- `PAGE_SIZE`: physical page and slot size, 8 KiB (00_scope R5). -/
def pageSize : Nat := 0x2000

/-- `VRAM_SIZE` (00_scope R5). -/
def vramSize : Nat := 0x4000

/-- `PIN_SIZE`: the pinned boot window on the Sega variant, 1 KiB (00_scope R5). -/
def pinSize : Nat := 0x0400

/-- Free value (log 6): the flag byte from which the n-th draw takes the flags an instruction leaves unspecified
(10_state R28). No body: nothing can be proved of its value. -/
opaque Config.freeFlags : Nat → Byte

/-- Free value (log 7): what the n-th draw reads from the H counter port (`H_COUNTER_READ`, 60_exceptions R648). -/
opaque Config.freeHCounter : Nat → Byte

/-- Free value (log 8): whether the n-th draw of the render hook sets SPR_OVF (60_exceptions R634, `o1`). -/
opaque Config.freeSpriteOverflow : Nat → Bool

/-- Free value (log 8): whether the n-th draw of the render hook sets SPR_COL (60_exceptions R634, `o2`). -/
opaque Config.freeSpriteCollision : Nat → Bool

end Sys2Proof
end

