-- ==== Sys2Proof/Machine/State.lean ====
section
/-! DEFINITION. The session as plain data: everything the spec gives the machine (10_state R20 to R60), the outcome reasons, and the
state right after reset (10_state R61 to R64; 70_reset_and_hazards R701). -/

namespace Sys2Proof.Machine

/-- The bytes of one memory as (address, byte) pairs in one canonical form: addresses strictly rising, no entry 0x00, the value an
unlisted address reads as (10_state R45; log 5). -/
abbrev Memory := List Host.Cell

/-- F, the 8-bit status register, bit by bit: S(7) Z(6) Y(5) H(4) X(3) PV(2) N(1) C(0) (10_state R26). -/
structure Flags where
  s : Bool
  z : Bool
  y : Bool
  h : Bool
  x : Bool
  pv : Bool
  n : Bool
  c : Bool
  deriving DecidableEq, Repr

/-- The interrupt mode, one of 0, 1, 2 (10_state R32, R37). -/
inductive IntMode where
  | im0 | im1 | im2
  deriving DecidableEq, Repr

/-- CPU state (10_state R21 to R36). The pairs AF, BC, DE, HL and the index halves are views computed in Machine/Ops.lean. -/
structure Cpu where
  a : Byte
  f : Flags
  b : Byte
  c : Byte
  d : Byte
  e : Byte
  h : Byte
  l : Byte
  /-- the shadow of A (R22) -/
  a' : Byte
  /-- the shadow of F (R22) -/
  f' : Flags
  bc' : Word
  de' : Word
  hl' : Word
  ix : Word
  iy : Word
  sp : Word
  pc : Word
  /-- the interrupt page register I (R29) -/
  i : Byte
  /-- the memory refresh register R (R30) -/
  r : Byte
  iff1 : Bool
  iff2 : Bool
  im : IntMode
  halted : Bool
  intInhibit : Bool
  nmiPending : Bool
  /-- the CPU's cycle counter (R36), a natural number (log 1) -/
  cycles : Nat
  deriving DecidableEq, Repr

/-- The Sega variant's control registers `ctl[0..3]` and `cart_ram[b]` for each of its `CART_RAM_BANKS` cartridge RAM banks of 16 KiB:
the page index of the bank's first page, or not allocated (10_state R43, R44). -/
structure SegaBank where
  ctl0 : Byte
  ctl1 : Byte
  ctl2 : Byte
  ctl3 : Byte
  ram : List (Option Nat)
  deriving DecidableEq, Repr

/-- The Codemasters variant's control registers `ctl[0..2]` and `cart_ram[b]` for each of its `CART_RAM_BANKS` cartridge RAM banks of
8 KiB (10_state R43, R44). -/
structure CodemastersBank where
  ctl0 : Byte
  ctl1 : Byte
  ctl2 : Byte
  ram : List (Option Nat)
  deriving DecidableEq, Repr

/-- The mapper-variant tag `MAPPER` with that variant's registers (10_state R20, R43, R59). -/
inductive Bank where
  | sega (r : SegaBank)
  | codemasters (r : CodemastersBank)
  deriving DecidableEq, Repr

/-- Mapper state (10_state R40 to R45). -/
structure Mapper where
  /-- `pages`: page 0 is system RAM, pages 1 to N the cartridge ROM, any further pages cartridge RAM; keys are offsets in the page -/
  pages : List Memory
  /-- `N`, the number of ROM pages -/
  romPages : Nat
  bank : Bank
  /-- `slot[0..7]`, the physical page of each 8 KiB logical window -/
  slot : Vector Nat 8
  /-- bit `s` is set when slot `s` is writable -/
  writable : BitVec 8
  deriving DecidableEq, Repr

/-- The VDP status register: bits 7 to 4; bits 3 to 0 are 0 (10_state R50). -/
structure VdpStatus where
  frameInt : Bool
  sprOvf : Bool
  sprCol : Bool
  lineInt : Bool
  deriving DecidableEq, Repr

/-- VDP state (10_state R50 to R56). -/
structure Vdp where
  status : VdpStatus
  reg : Vector Byte 16
  cram : Vector Byte 32
  vram : Memory
  /-- the vertical counter, the number of the line the next stepper call will process (R53) -/
  v : Nat
  /-- the horizontal counter; no rule writes it (R53; log 19) -/
  h : Byte
  lineCounter : Byte
  codeAddr : Word
  firstWrite : Bool
  readBuffer : Byte
  vscrollLatch : Byte
  /-- the VDP's cycle counter (R56), a natural number (log 1) -/
  vdpCycles : Nat
  deriving DecidableEq, Repr

/-- The events of the observational output (10_state R60; 20_memory R96; 60_exceptions R643, R646). -/
inductive Event where
  /-- a mapper read with its resolved location (R94: may be emitted; log 9) -/
  | read (addr : Word) (page offset : Nat) (value : Byte)
  /-- an ordinary write that reached a page -/
  | write (addr : Word) (page offset : Nat) (value : Byte)
  /-- a write to a non-writable slot, discarded -/
  | invalidWrite (addr : Word) (value : Byte)
  /-- a mapper control write -/
  | controlWrite (index : Nat) (value : Byte)
  /-- the slot table and writable mask after a control write -/
  | remap (slot : Vector Nat 8) (writable : BitVec 8)
  /-- cartridge RAM made available -/
  | ramAllocated (bank firstPage : Nat)
  /-- at construction, a ROM whose number of pages is no power of two -/
  | nonPowerOfTwoBanks (pages : Nat)
  /-- a VDP register write through the control port -/
  | vdpRegisterWrite (index : Nat) (value : Byte)
  /-- a sound port write with the cycle count at the start of its instruction -/
  | soundWrite (cycles : Nat) (value : Byte)
  deriving DecidableEq, Repr

/-- The session (10_state R20, R59), with the parameters it was built for and the model's own draw counter. -/
structure State where
  /-- the parameters of the machine, constant for the session (00_scope R5; log 2) -/
  cfg : Config
  cpu : Cpu
  mapper : Mapper
  vdp : Vdp
  joypad0 : Byte
  joypad1 : Byte
  /-- the observational output, newest first; no step reads it (10_state R60; log 9) -/
  events : List Event
  /-- the MODEL's own field: how many free values have been drawn (log 6) -/
  draws : Nat
  deriving DecidableEq, Repr

/-- Why a machine stops with a fault. No instruction and no step raises one (60_exceptions R601). -/
inductive Fault where
  /-- raised by session construction alone, when the ROM's length is 0 or no multiple of 8 KiB: no session exists afterwards
  (60_exceptions R600). Safe: the spec's own error, reported with the offending length. -/
  | invalidRomSize (len : Nat)
  deriving DecidableEq, Repr

/-- Why a step gives no next state. -/
inductive Refusal where
  /-- raised by an arm of `exec` whose instruction has no meaning yet. Safe. No arm answers it now. -/
  | notModelled (mnemonic : String)
  /-- raised by maskable interrupt entry in mode 0 when `INT_BUS_BYTE` is not of the form `11 ttt 111`: "a configuration with
  `INT_BUS_BYTE` not of that form is refused by the model" (60_exceptions R613). Safe. -/
  | mode0BusByteNotRst (busByte : Byte)
  /-- raised by a table entry reached through a prefix row when the entry is itself a prefix row, which the decoder never gives
  (Laws/Decode.lean `decodeWindow_not_prefixRow`). Safe: no state and no bytes reach it. -/
  | nestedPrefixRow
  deriving DecidableEq, Repr

/-- All eight flags clear: `F = 0x00` (10_state R61). -/
def Flags.clear : Flags := ⟨false, false, false, false, false, false, false, false⟩

/-- CPU state in a fresh session with `INIT_GPR` at its default (10_state R61; log 4). -/
def Cpu.reset : Cpu where
  a := 0
  f := Flags.clear
  b := 0
  c := 0
  d := 0
  e := 0
  h := 0
  l := 0
  a' := 0
  f' := Flags.clear
  bc' := 0
  de' := 0
  hl' := 0
  ix := 0
  iy := 0
  sp := 0
  pc := 0
  i := 0
  r := 0
  iff1 := false
  iff2 := false
  im := .im0
  halted := false
  intInhibit := false
  nmiPending := false
  cycles := 0

/-- VDP state in a fresh session, all zero (10_state R63). -/
def Vdp.reset : Vdp where
  status := ⟨false, false, false, false⟩
  reg := Vector.replicate 16 0
  cram := Vector.replicate 32 0
  vram := []
  v := 0
  h := 0
  lineCounter := 0
  codeAddr := 0
  firstWrite := false
  readBuffer := 0
  vscrollLatch := 0
  vdpCycles := 0

/-- The Sega control registers in a fresh session with `CART_RAM_BANKS` at its default, no cartridge RAM allocated (10_state R62). -/
def SegaBank.reset : SegaBank := ⟨0x00, 0x00, 0x01, 0x02, [none, none]⟩

/-- The Codemasters control registers in a fresh session with `CART_RAM_BANKS` at its default, no cartridge RAM allocated
(10_state R62). -/
def CodemastersBank.reset : CodemastersBank := ⟨0x00, 0x01, 0x00, [none]⟩

/-- Mapper state in a fresh Sega session over a ROM of eight pages (10_state R62: for a ROM of at least 48 KiB `slot` is
[1,2,3,4,5,6,0,0] and `writable` 0b11000000). No byte is listed: the ROM image is a model argument (log 3). -/
def Mapper.reset : Mapper where
  pages := [[], [], [], [], [], [], [], [], []]
  romPages := 8
  bank := .sega SegaBank.reset
  slot := #v[1, 2, 3, 4, 5, 6, 0, 0]
  writable := 0b11000000

/-- The machine right after reset, a fresh session (10_state R61 to R64; 70_reset_and_hazards R701), with the default parameters and
an unprogrammed 64 KiB ROM on the Sega variant (log 3). -/
def State.reset : State where
  cfg := {}
  cpu := Cpu.reset
  mapper := Mapper.reset
  vdp := Vdp.reset
  joypad0 := 0xFF
  joypad1 := 0xFF
  events := []
  draws := 0

end Sys2Proof.Machine
end

