-- ==== Sys2Proof/Machine/Flags.lean ====
section
/-! DEFINITION. F as a byte, and every flag computation: the arithmetic of 43_alu8, 44_general_control, 45_alu16, the shifts of
46_rotate_shift and the flag rules of 40, 42, 47, 49. A flag a rule leaves unspecified is taken from the argument `u`, the free flags
the step supplies (10_state R28; log 6); a flag a rule keeps is taken from `f`, the flags before. -/

namespace Sys2Proof.Machine

/-- F as a byte: S(7) Z(6) Y(5) H(4) X(3) PV(2) N(1) C(0) (10_state R26). -/
def Flags.toByte (f : Flags) : Byte :=
  BitVec.ofBool f.s ++ BitVec.ofBool f.z ++ BitVec.ofBool f.y ++ BitVec.ofBool f.h ++
    BitVec.ofBool f.x ++ BitVec.ofBool f.pv ++ BitVec.ofBool f.n ++ BitVec.ofBool f.c

/-- All eight bits of F loaded from a byte (10_state R26, R28). -/
def Flags.ofByte (b : Byte) : Flags where
  s := b.getLsbD 7
  z := b.getLsbD 6
  y := b.getLsbD 5
  h := b.getLsbD 4
  x := b.getLsbD 3
  pv := b.getLsbD 2
  n := b.getLsbD 1
  c := b.getLsbD 0

/-- `add8(a, b, c)`: the result and the flags (43_alu8 R322). -/
def add8 (a b : Byte) (c : Bool) (u : Flags) : Byte × Flags :=
  let sum := a.toNat + b.toNat + c.toNat
  let r := trunc8 sum
  (r, { s := r.getLsbD 7
        z := r == 0
        y := u.y
        h := decide (lowDigit a + lowDigit b + c.toNat > 15)
        x := u.x
        pv := a.getLsbD 7 == b.getLsbD 7 && r.getLsbD 7 != a.getLsbD 7
        n := false
        c := decide (sum > 255) })

/-- `sub8(a, b, c)`: the result and the flags (43_alu8 R323). -/
def sub8 (a b : Byte) (c : Bool) (u : Flags) : Byte × Flags :=
  let diff : Int := (a.toNat : Int) - b.toNat - c.toNat
  let r := BitVec.ofInt 8 diff
  (r, { s := r.getLsbD 7
        z := r == 0
        y := u.y
        h := decide ((lowDigit a : Int) - lowDigit b - c.toNat < 0)
        x := u.x
        pv := a.getLsbD 7 != b.getLsbD 7 && r.getLsbD 7 != a.getLsbD 7
        n := true
        c := decide (diff < 0) })

/-- `logic8(r, h)` (43_alu8 R324). -/
def logic8 (r : Byte) (h : Bool) (u : Flags) : Flags where
  s := r.getLsbD 7
  z := r == 0
  y := u.y
  h := h
  x := u.x
  pv := parity r
  n := false
  c := false

/-- The result and flags of `INC`, C kept (43_alu8 R334). -/
def inc8 (v : Byte) (f u : Flags) : Byte × Flags :=
  let r := trunc8 (v.toNat + 1)
  (r, { s := r.getLsbD 7
        z := r == 0
        y := u.y
        h := lowDigit v == 0xF
        x := u.x
        pv := v == 0x7F
        n := false
        c := f.c })

/-- The result and flags of `DEC`, C kept (43_alu8 R338). -/
def dec8 (v : Byte) (f u : Flags) : Byte × Flags :=
  let r := BitVec.ofInt 8 ((v.toNat : Int) - 1)
  (r, { s := r.getLsbD 7
        z := r == 0
        y := u.y
        h := lowDigit v == 0x0
        x := u.x
        pv := v == 0x80
        n := true
        c := f.c })

/-- The correction `corr` of `DAA` (44_general_control R360). -/
def daaCorrection (a : Byte) (f : Flags) : Nat :=
  (if f.h || decide (lowDigit a > 9) then 0x06 else 0) + (if f.c || decide (a.toNat > 0x99) then 0x60 else 0)

/-- The result and flags of `DAA`, N kept (44_general_control R360). -/
def daa8 (a : Byte) (f u : Flags) : Byte × Flags :=
  let corr := daaCorrection a f
  let r := if f.n then BitVec.ofInt 8 ((a.toNat : Int) - corr) else trunc8 (a.toNat + corr)
  (r, { s := r.getLsbD 7
        z := r == 0
        y := u.y
        h := if f.n then f.h && decide (lowDigit a < 6) else decide (lowDigit a > 9)
        x := u.x
        pv := parity r
        n := f.n
        c := f.c || decide (a.toNat > 0x99) })

/-- The flags of `CPL` (44_general_control R361). -/
def cplFlags (f u : Flags) : Flags := { f with y := u.y, x := u.x, h := true, n := true }

/-- The flags of `CCF` (44_general_control R363). -/
def ccfFlags (f u : Flags) : Flags := { f with y := u.y, x := u.x, h := f.c, n := false, c := !f.c }

/-- The flags of `SCF` (44_general_control R364). -/
def scfFlags (f u : Flags) : Flags := { f with y := u.y, x := u.x, h := false, n := false, c := true }

/-- `v[11:0]` as a number, the operand of the 16-bit half-carry rules (45_alu16 R391). -/
def lowTwelve (v : Word) : Nat := v.toNat % 0x1000

/-- The result and flags of 16-bit `ADD`; S, Z, PV kept (45_alu16 R391). -/
def add16 (a b : Word) (f u : Flags) : Word × Flags :=
  let sum := a.toNat + b.toNat
  (trunc16 sum, { f with
    y := u.y
    h := decide (lowTwelve a + lowTwelve b > 0x0FFF)
    x := u.x
    n := false
    c := decide (sum > 0xFFFF) })

/-- The result and flags of 16-bit `ADC` (45_alu16 R392). -/
def adc16 (a b : Word) (c : Bool) (u : Flags) : Word × Flags :=
  let sum := a.toNat + b.toNat + c.toNat
  let r := trunc16 sum
  (r, { s := r.getLsbD 15
        z := r == 0
        y := u.y
        h := decide (lowTwelve a + lowTwelve b + c.toNat > 0x0FFF)
        x := u.x
        pv := a.getLsbD 15 == b.getLsbD 15 && r.getLsbD 15 != a.getLsbD 15
        n := false
        c := decide (sum > 0xFFFF) })

/-- The result and flags of 16-bit `SBC` (45_alu16 R393). -/
def sbc16 (a b : Word) (c : Bool) (u : Flags) : Word × Flags :=
  let diff : Int := (a.toNat : Int) - b.toNat - c.toNat
  let r := BitVec.ofInt 16 diff
  (r, { s := r.getLsbD 15
        z := r == 0
        y := u.y
        h := decide ((lowTwelve a : Int) - lowTwelve b - c.toNat < 0)
        x := u.x
        pv := a.getLsbD 15 != b.getLsbD 15 && r.getLsbD 15 != a.getLsbD 15
        n := true
        c := decide (diff < 0) })

/-- `RLC`: the result and the bit shifted out (46_rotate_shift R427, R421). -/
def rlc8 (v : Byte) (_carry : Bool) : Byte × Bool := (v.extractLsb' 0 7 ++ v.extractLsb' 7 1, v.getLsbD 7)

/-- `RRC` (46_rotate_shift R429, R423). -/
def rrc8 (v : Byte) (_carry : Bool) : Byte × Bool := (v.extractLsb' 0 1 ++ v.extractLsb' 1 7, v.getLsbD 0)

/-- `RL`, through the old carry (46_rotate_shift R428, R422). -/
def rl8 (v : Byte) (carry : Bool) : Byte × Bool := (v.extractLsb' 0 7 ++ BitVec.ofBool carry, v.getLsbD 7)

/-- `RR`, through the old carry (46_rotate_shift R430, R424). -/
def rr8 (v : Byte) (carry : Bool) : Byte × Bool := (BitVec.ofBool carry ++ v.extractLsb' 1 7, v.getLsbD 0)

/-- `SLA` (46_rotate_shift R431). -/
def sla8 (v : Byte) (_carry : Bool) : Byte × Bool := (v.extractLsb' 0 7 ++ (0 : BitVec 1), v.getLsbD 7)

/-- `SRA`, bit 7 kept (46_rotate_shift R432). -/
def sra8 (v : Byte) (_carry : Bool) : Byte × Bool := (v.extractLsb' 7 1 ++ v.extractLsb' 1 7, v.getLsbD 0)

/-- `SLL`, 1 into bit 0 (46_rotate_shift R434). -/
def sll8 (v : Byte) (_carry : Bool) : Byte × Bool := (v.extractLsb' 0 7 ++ (1 : BitVec 1), v.getLsbD 7)

/-- `SRL` (46_rotate_shift R433). -/
def srl8 (v : Byte) (_carry : Bool) : Byte × Bool := ((0 : BitVec 1) ++ v.extractLsb' 1 7, v.getLsbD 0)

/-- The flags of the accumulator rotates; S, Z, PV kept (46_rotate_shift R421 to R424). -/
def rotAFlags (c : Bool) (f u : Flags) : Flags := { f with y := u.y, x := u.x, h := false, n := false, c := c }

/-- `shiftflags(r, c)` (46_rotate_shift R426). -/
def shiftFlags (r : Byte) (c : Bool) (u : Flags) : Flags where
  s := r.getLsbD 7
  z := r == 0
  y := u.y
  h := false
  x := u.x
  pv := parity r
  n := false
  c := c

/-- Flags from a byte, C kept: the rule of `RLD` and `RRD` (46_rotate_shift R436) and of `IN r,(C)` (49_io R522). -/
def valueFlags (v : Byte) (f u : Flags) : Flags where
  s := v.getLsbD 7
  z := v == 0
  y := u.y
  h := false
  x := u.x
  pv := parity v
  n := false
  c := f.c

/-- The flags of `LD A,I` and `LD A,R` (40_load8 R218, R219). -/
def loadIRFlags (v : Byte) (iff2 : Bool) (f u : Flags) : Flags where
  s := v.getLsbD 7
  z := v == 0
  y := u.y
  h := false
  x := u.x
  pv := iff2
  n := false
  c := f.c

/-- The flags of `BIT b`; S and PV are unspecified (47_bit R461, R460). -/
def bitFlags (v : Byte) (b : BitVec 3) (f u : Flags) : Flags where
  s := u.s
  z := !v.getLsbD b.toNat
  y := u.y
  h := true
  x := u.x
  pv := u.pv
  n := false
  c := f.c

/-- The flags of the block transfers, `bc` the new BC (42_exchange_block R288). -/
def blockLoadFlags (bc : Word) (f u : Flags) : Flags :=
  { f with y := u.y, x := u.x, h := false, pv := bc != 0, n := false }

/-- The flags of the block searches, `bc` the new BC (42_exchange_block R292). -/
def blockCompareFlags (a t : Byte) (bc : Word) (f u : Flags) : Flags :=
  let r := a - t
  { s := r.getLsbD 7
    z := r == 0
    y := u.y
    h := decide (lowDigit a < lowDigit t)
    x := u.x
    pv := bc != 0
    n := true
    c := f.c }

/-- `ioblockflags(b)`, `b` the new B; S, H, PV are unspecified (49_io R531). -/
def blockIoFlags (b : Byte) (f u : Flags) : Flags where
  s := u.s
  z := b == 0
  y := u.y
  h := u.h
  x := u.x
  pv := u.pv
  n := true
  c := f.c

end Sys2Proof.Machine
end

