-- ==== Sys2Proof/Machine/Memory.lean ====
section
/-! DEFINITION. Byte memories as sorted lists of cells: read, write, and the canonical form (10_state R45; log 5). -/

namespace Sys2Proof.Machine

/-- What an unlisted address reads as: 0x00 (10_state R45, "zero-filled"; log 5). -/
def memoryDefault : Byte := 0x00

/-- The byte at an address. -/
def Memory.read : Memory → Nat → Byte
  | [], _ => memoryDefault
  | (k, w) :: rest, a => if k = a then w else Memory.read rest a

/-- A cell put before the rest, unless it holds what an unlisted address reads as. -/
def Memory.put (a : Nat) (v : Byte) (rest : Memory) : Memory :=
  if v = memoryDefault then rest else (a, v) :: rest

/-- The byte at an address written, in canonical form. -/
def Memory.write : Memory → Nat → Byte → Memory
  | [], a, v => Memory.put a v []
  | (k, w) :: rest, a, v =>
    if a < k then Memory.put a v ((k, w) :: rest)
    else if a = k then Memory.put a v rest
    else (k, w) :: Memory.write rest a v

/-- Addresses strictly rising from `lo`, below `size`, and no entry at the default. -/
def Memory.wfFrom (size : Nat) : Nat → Memory → Bool
  | _, [] => true
  | lo, (k, w) :: rest => decide (lo ≤ k) && decide (k < size) && decide (w ≠ memoryDefault) && Memory.wfFrom size (k + 1) rest

/-- The canonical form of a memory of `size` bytes. -/
def Memory.wf (size : Nat) (m : Memory) : Bool := Memory.wfFrom size 0 m

/-- A list of bytes as a memory from address `base` on. -/
def Memory.ofBytes : Nat → List Byte → Memory
  | _, [] => []
  | base, b :: rest => Memory.put base b (Memory.ofBytes (base + 1) rest)

end Sys2Proof.Machine
end

