-- ==== Sys2Proof/Machine/Mapper.lean ====
section
/-! DEFINITION. The mapper: translation, the two remap functions, control writes, allocation of cartridge RAM, read and write
(20_memory R92 to R112). A write answers the mapper after it and the diagnostic events it emits, oldest first. -/

namespace Sys2Proof.Machine

/-- `addr[15:13]`, the slot of a logical address (20_memory R80). -/
def slotOf (a : Word) : Fin 8 := (a.extractLsb' 13 3).toFin

/-- `addr[12:0]`, the offset of a logical address in its slot (20_memory R80). -/
def offsetOf (a : Word) : Nat := (a.extractLsb' 0 13).toNat

/-- `rom_page(k) = 1 + (k mod N)` (20_memory R93). -/
def romPage (n k : Nat) : Nat := 1 + k % n

/-- The bank number of a control register: its low seven bits (20_memory R93, R101, R111). -/
def bankNumber (ctl : Byte) : Nat := (ctl.extractLsb' 0 7).toNat

/-- The cartridge RAM bank the Sega registers map: bank `ctl[0][2]` while `ctl[0][3] = 1` (20_memory R100, R101). A number that is none of
the `CART_RAM_BANKS` banks maps nothing (10_state R44; log 25). -/
def SegaBank.mapped (r : SegaBank) : Option Nat :=
  let b := (r.ctl0.getLsbD 2).toNat
  if r.ctl0.getLsbD 3 && decide (b < r.ram.length) then some b else none

/-- The cartridge RAM bank the Codemasters registers map: bank 0 while `ctl[1][7] = 1` (20_memory R110, R111; log 25). -/
def CodemastersBank.mapped (r : CodemastersBank) : Option Nat :=
  if r.ctl1.getLsbD 7 && decide (0 < r.ram.length) then some 0 else none

/-- The first page of bank `b`. A bank whose RAM is not allocated is never mapped in a reachable state (20_memory R104 allocates first);
there the fallback is the first ROM page (log 15). -/
def ramFirstPage (ram : List (Option Nat)) (b : Nat) : Nat := ((ram[b]?).getD none).getD 1

/-- The Sega remap function: `slot` and `writable` from the control registers (20_memory R100). -/
def segaRemap (n : Nat) (r : SegaBank) : Vector Nat 8 × BitVec 8 :=
  let b0 := bankNumber r.ctl1
  let b1 := bankNumber r.ctl2
  let b2 := bankNumber r.ctl3
  match r.mapped with
  | some b =>
    let page := ramFirstPage r.ram b
    (#v[romPage n (2 * b0), romPage n (2 * b0 + 1), romPage n (2 * b1), romPage n (2 * b1 + 1), page, page + 1, 0, 0], 0b11110000)
  | none =>
    (#v[romPage n (2 * b0), romPage n (2 * b0 + 1), romPage n (2 * b1), romPage n (2 * b1 + 1),
      romPage n (2 * b2), romPage n (2 * b2 + 1), 0, 0], 0b11000000)

/-- The Codemasters remap function (20_memory R110). -/
def codemastersRemap (n : Nat) (r : CodemastersBank) : Vector Nat 8 × BitVec 8 :=
  let b0 := bankNumber r.ctl0
  let b1 := bankNumber r.ctl1
  let b2 := bankNumber r.ctl2
  match r.mapped with
  | some b =>
    (#v[romPage n (2 * b0), romPage n (2 * b0 + 1), romPage n (2 * b1), romPage n (2 * b1 + 1),
      romPage n (2 * b2), ramFirstPage r.ram b, 0, 0], 0b11100000)
  | none =>
    (#v[romPage n (2 * b0), romPage n (2 * b0 + 1), romPage n (2 * b1), romPage n (2 * b1 + 1),
      romPage n (2 * b2), romPage n (2 * b2 + 1), 0, 0], 0b11000000)

/-- The slot table and writable mask as a function of the control registers (10_state R41, R42). -/
def remapOf (n : Nat) : Bank → Vector Nat 8 × BitVec 8
  | .sega r => segaRemap n r
  | .codemasters r => codemastersRemap n r

/-- `cart_ram` (10_state R44). -/
def Bank.ram : Bank → List (Option Nat)
  | .sega r => r.ram
  | .codemasters r => r.ram

/-- `cart_ram` replaced. -/
def Bank.withRam (ram : List (Option Nat)) : Bank → Bank
  | .sega r => .sega { r with ram := ram }
  | .codemasters r => .codemasters { r with ram := ram }

/-- The cartridge RAM bank the control registers map (20_memory R100, R110). -/
def Bank.mapped : Bank → Option Nat
  | .sega r => r.mapped
  | .codemasters r => r.mapped

/-- How many pages a cartridge RAM bank takes: two on Sega, one on Codemasters (10_state R44). -/
def Bank.ramPages : Bank → Nat
  | .sega _ => 2
  | .codemasters _ => 1

/-- `slot` and `writable` recomputed after a control write, with its `Remap` event (20_memory R102, R112). -/
def Mapper.remapped (m : Mapper) : Mapper × Event :=
  let t := remapOf m.romPages m.bank
  ({ m with slot := t.1, writable := t.2 }, .remap t.1 t.2)

/-- `Allocate(b, n)` when a bank `b` is mapped and not allocated yet: `n` zero-filled pages are appended and `cart_ram[b]` set to the
first of them; else nothing (20_memory R102, R104, R112). -/
def allocate (pages : List Memory) (ram : List (Option Nat)) (n : Nat) : Option Nat → List Memory × List (Option Nat) × List Event
  | none => (pages, ram, [])
  | some b =>
    if ram[b]? = some none then
      (pages ++ List.replicate n [], ram.set b (some pages.length), [.ramAllocated b pages.length])
    else (pages, ram, [])

/-- A control write after its register has been written, `bank` holding it: the allocation, the remap, the events; `i` and `v` are the
register's index and the byte (20_memory R102, R112; log 24). -/
def Mapper.controlWritten (m : Mapper) (bank : Bank) (i : Nat) (v : Byte) : Mapper × List Event :=
  let (pages, ram, ev) := allocate m.pages bank.ram bank.ramPages bank.mapped
  let (m', re) := Mapper.remapped { m with pages := pages, bank := bank.withRam ram }
  (m', ev ++ [.controlWrite i v, re])

/-- `ctl[i] <- v` on the Sega variant (20_memory R102), `i` the offset from 0xFFFC. -/
def SegaBank.setCtl (r : SegaBank) (i : BitVec 2) (v : Byte) : SegaBank :=
  match i.toNat with
  | 0 => { r with ctl0 := v }
  | 1 => { r with ctl1 := v }
  | 2 => { r with ctl2 := v }
  | _ => { r with ctl3 := v }

/-- `SegaControlWrite(i, v)` (20_memory R102). -/
def Mapper.segaControlWrite (m : Mapper) (r : SegaBank) (i : BitVec 2) (v : Byte) : Mapper × List Event :=
  m.controlWritten (.sega (r.setCtl i v)) i.toNat v

/-- `ctl[g] <- v` on the Codemasters variant (20_memory R112). -/
def CodemastersBank.setCtl (r : CodemastersBank) (g : BitVec 2) (v : Byte) : CodemastersBank :=
  match g.toNat with
  | 0 => { r with ctl0 := v }
  | 1 => { r with ctl1 := v }
  | _ => { r with ctl2 := v }

/-- `CodemastersControlWrite(g, v)` (20_memory R112). -/
def Mapper.codemastersControlWrite (m : Mapper) (r : CodemastersBank) (g : BitVec 2) (v : Byte) : Mapper × List Event :=
  m.controlWritten (.codemasters (r.setCtl g v)) g.toNat v

/-- Whether a logical address lies in the pinned boot window (20_memory R103): the Sega variant, below 1 KiB. -/
def Mapper.pinned (m : Mapper) (a : Word) : Bool :=
  match m.bank with
  | .sega _ => decide (a.toNat < pinSize)
  | .codemasters _ => false

/-- The physical page and offset a read of a logical address resolves to (20_memory R94). -/
def Mapper.resolve (m : Mapper) (a : Word) : Nat × Nat :=
  if m.pinned a then (1, a.toNat) else (m.slot[slotOf a], offsetOf a)

/-- `pages[p][o]` (20_memory R81). -/
def Mapper.pageByte (m : Mapper) (p o : Nat) : Byte := Memory.read (m.pages.getD p []) o

/-- `read(addr)` (20_memory R94). It never fails and never changes state. -/
def Mapper.read (m : Mapper) (a : Word) : Byte := m.pageByte (m.resolve a).1 (m.resolve a).2

/-- `pages[p][o] <- v` (20_memory R81). -/
def Mapper.setPageByte (m : Mapper) (p o : Nat) (v : Byte) : Mapper :=
  { m with pages := m.pages.modify p (fun page => Memory.write page o v) }

/-- The ordinary path of a write: the byte stored if the slot is writable, else discarded with one `InvalidWrite` (20_memory R95). -/
def Mapper.ordinaryWrite (m : Mapper) (a : Word) (v : Byte) : Mapper × List Event :=
  let page := m.slot[slotOf a]
  if m.writable.getLsbD (slotOf a) then (m.setPageByte page (offsetOf a) v, [.write a page (offsetOf a) v])
  else (m, [.invalidWrite a v])

/-- `write(addr, v)` (20_memory R95), `through` the parameter `SEGA_CTRL_WRITE_THROUGH`. -/
def Mapper.write (m : Mapper) (through : Bool) (a : Word) (v : Byte) : Mapper × List Event :=
  match m.bank with
  | .sega r =>
    if 0xFFFC ≤ a.toNat then
      let (m', ev) := m.segaControlWrite r (a.extractLsb' 0 2) v
      if through then
        let (m'', ev') := m'.ordinaryWrite a v
        (m'', ev ++ ev')
      else (m', ev)
    else m.ordinaryWrite a v
  | .codemasters r =>
    if a = 0x0000 ∨ a = 0x4000 ∨ a = 0x8000 then m.codemastersControlWrite r (a.extractLsb' 14 2) v
    else m.ordinaryWrite a v

end Sys2Proof.Machine
end

