-- ==== Sys2Proof/Machine/Ops.lean ====
section
/-! DEFINITION. The named operations over memory and registers: the outcome of an instruction, the mapper accesses of the CPU, the
stack, the free flags, taking an interrupt and returning from one. -/

namespace Sys2Proof.Machine

/-- The outcome of a step or of an instruction. -/
abbrev Out := Host.Outcome State Fault Refusal

/-- An outcome followed by a further part of the step. -/
def bindOut (o : Out) (k : State → Out) : Out :=
  match o with
  | .next s => k s
  | .fault r => .fault r
  | .refused r => .refused r

/-- `cycles <- cycles + n` (00_scope R10). -/
def State.addCycles (s : State) (n : Nat) : State := { s with cpu.cycles := s.cpu.cycles + n }

/-- The end of an instruction: its cost is added once (30_encoding R141). -/
def finish (n : Nat) (s : State) : Out := .next (s.addCycles n)

/-- `PC <- v`. -/
def State.setPc (s : State) (v : Word) : State := { s with cpu.pc := v }

/-- `SP <- v`. -/
def State.setSp (s : State) (v : Word) : State := { s with cpu.sp := v }

/-- PC advanced modulo 65536 (10_state R25). -/
def State.advancePc (s : State) (n : Nat) : State := s.setPc (s.cpu.pc + BitVec.ofNat 16 n)

/-- R with `R[6:0]` advanced modulo 128 and `R[7]` kept (10_state R30). -/
def advanceR (r : Byte) (n : Nat) : Byte := r.extractLsb' 7 1 ++ (r.extractLsb' 0 7 + BitVec.ofNat 7 n)

/-- `R[6:0] <- R[6:0] + n` (10_state R30). -/
def State.bumpR (s : State) (n : Nat) : State := { s with cpu.r := advanceR s.cpu.r n }

/-- Events, oldest first, appended to the history, which is held newest first (10_state R60; log 9). -/
def State.emit (s : State) (ev : List Event) : State := { s with events := ev.reverse ++ s.events }

/-- `MemRead(addr, 1)` (00_scope R9; 20_memory R94). -/
def State.memRead (s : State) (a : Word) : Byte := s.mapper.read a

/-- The event a read may emit, with the resolved location (20_memory R94, R96); no step stores it (log 9). -/
def State.readEvent (s : State) (a : Word) : Event :=
  .read a (s.mapper.resolve a).1 (s.mapper.resolve a).2 (s.memRead a)

/-- `MemWrite(addr, 1, v)` (00_scope R9; 20_memory R95). -/
def State.memWrite (s : State) (a : Word) (v : Byte) : State :=
  let w := s.mapper.write s.cfg.segaCtrlWriteThrough a v
  State.emit { s with mapper := w.1 } w.2

/-- `MemRead(addr, 2)`, little-endian (00_scope R9; 20_memory R86). -/
def State.memRead16 (s : State) (a : Word) : Word := wordOf (s.memRead (a + 1)) (s.memRead a)

/-- `MemWrite(addr, 2, v)`, low byte first (00_scope R9; 20_memory R86). -/
def State.memWrite16 (s : State) (a : Word) (v : Word) : State :=
  (s.memWrite a (loByte v)).memWrite (a + 1) (hiByte v)

/-- `push16(v)`: the high byte first (41_load16_stack R253). -/
def State.push16 (s : State) (v : Word) : State :=
  let s1 := (s.setSp (s.cpu.sp - 1)).memWrite (s.cpu.sp - 1) (hiByte v)
  (s1.setSp (s1.cpu.sp - 1)).memWrite (s1.cpu.sp - 1) (loByte v)

/-- The word `pop16()` returns (41_load16_stack R253). -/
def State.stackTop (s : State) : Word := s.memRead16 s.cpu.sp

/-- The state `pop16()` leaves: SP up by 2 (41_load16_stack R253). -/
def State.dropStack (s : State) : State := s.setSp (s.cpu.sp + 2)

/-- `PC <- pop16()` (48_jump_call_return R494). -/
def State.popPc (s : State) : State := s.dropStack.setPc s.stackTop

/-- `push16(PC)`; `PC <- target` (48_jump_call_return R492). -/
def State.callTo (s : State) (target : Word) : State := (s.push16 s.cpu.pc).setPc target

/-- The flags the next flag-writing instruction leaves unspecified: a free value (10_state R28; log 6). -/
def State.free (s : State) : Flags := Flags.ofByte (Config.freeFlags s.draws)

/-- F replaced as a whole (`POP AF`, `EX AF,AF'`; 10_state R28). -/
def State.loadF (s : State) (f : Flags) : State := { s with cpu.f := f }

/-- F written by an instruction whose rule writes flags: one draw is used up (10_state R28; log 6). -/
def State.writeF (s : State) (f : Flags) : State := { s with cpu.f := f, draws := s.draws + 1 }

/-- What every interrupt entry does: the halt ends, R counts one M1 cycle, IFF1 is cleared, PC is pushed, control goes to `target`,
the acknowledge cost is added (60_exceptions R611, R612 to R616). The caller has cleared `nmi_pending` (NMI) or IFF2 (maskable). -/
def State.takeInterrupt (s : State) (target : Word) (cost : Nat) : State :=
  let s1 := State.bumpR { s with cpu.halted := false, cpu.iff1 := false } 1
  (s1.callTo target).addCycles cost

/-- `RETN`: `PC <- pop16()`; `IFF1 <- IFF2` (48_jump_call_return R499). -/
def State.returnFromNmi (s : State) : State :=
  let s1 := s.popPc
  { s1 with cpu.iff1 := s1.cpu.iff2 }

/-- `RETI`: `PC <- pop16()`; the flip-flops by `RETI_IFF_POLICY` (48_jump_call_return R498). -/
def State.returnFromInt (s : State) : State :=
  let s1 := s.popPc
  match s.cfg.retiIffPolicy with
  | .unchanged => s1
  | .copyIff2 => { s1 with cpu.iff1 := s1.cpu.iff2 }
  | .set => { s1 with cpu.iff1 := true, cpu.iff2 := true }

end Sys2Proof.Machine
end

