-- ==== Sys2Proof/Syntax.lean ====
section
/-! DEFINITION. The instructions as syntax: one constructor of `Instr` per row of spec/opcode_table.json,
with the operand types its fields select (30_encoding R143 to R148). -/

namespace Sys2Proof

/-- The 8-bit register field `r8`, value 110 excluded: that value selects a memory operand (30_encoding R145). -/
inductive Reg8 where
  | b | c | d | e | h | l | a
  deriving DecidableEq, Repr

/-- The high or the low half of an index register (30_encoding R150). -/
inductive Half where
  | hi | lo
  deriving DecidableEq, Repr

/-- The register field `p` of `LD p,p'`: `r8` with the halves of the index register in place of H and L (40_load8 R222). -/
inductive RegP where
  | b | c | d | e | hi | lo | a
  deriving DecidableEq, Repr

/-- The 16-bit register field of the `dd`/`ss` kind (30_encoding R146). -/
inductive Pair where
  | bc | de | hl | sp
  deriving DecidableEq, Repr

/-- The 16-bit register field of the `qq` kind (30_encoding R147). -/
inductive PairQ where
  | bc | de | hl | af
  deriving DecidableEq, Repr

/-- The 16-bit register field of `ADD IX,pp` and `ADD IY,rr`: 10 selects the index register (30_encoding R146). -/
inductive PairI where
  | bc | de | idx | sp
  deriving DecidableEq, Repr

/-- The condition field `cc` (30_encoding R148). -/
inductive Cond where
  | nz | z | nc | c | po | pe | p | m
  deriving DecidableEq, Repr

/-- One instruction form. `d` is a displacement byte, `e` a jump offset, `n` an immediate byte, `nn` an immediate word, `b` a bit
number (30_encoding R144). The six `prefix…` constructors are the table's prefix rows (log 13), `noniDd` and `noniFd` the
ignored prefixes of R152. The rows with operands come first, then the rows without, each in the table's order (Lean's runtime has
a limit on the number of constructors that carry data). -/
inductive Instr where
  /-- `DJNZ e` (R491) -/
  | djnz (e : Byte)
  /-- `JR e` (R483) -/
  | jr (e : Byte)
  /-- `JR NZ,e` (R487) -/
  | jrNz (e : Byte)
  /-- `JR Z,e` (R486) -/
  | jrZ (e : Byte)
  /-- `JR NC,e` (R485) -/
  | jrNc (e : Byte)
  /-- `JR C,e` (R484) -/
  | jrC (e : Byte)
  /-- `LD dd,nn` (R241) -/
  | ldDdNn (dd : Pair) (nn : Word)
  /-- `ADD HL,ss` (R391) -/
  | addHlSs (ss : Pair)
  /-- `LD (nn),HL` (R248) -/
  | ldMemNnHl (nn : Word)
  /-- `LD HL,(nn)` (R244) -/
  | ldHlMemNn (nn : Word)
  /-- `LD (nn),A` (R217) -/
  | ldMemNnA (nn : Word)
  /-- `LD A,(nn)` (R214) -/
  | ldAMemNn (nn : Word)
  /-- `INC ss` (R396) -/
  | incSs (ss : Pair)
  /-- `DEC ss` (R399) -/
  | decSs (ss : Pair)
  /-- `INC r` (R334) -/
  | incR (r : Reg8)
  /-- `DEC r` (R338) -/
  | decR (r : Reg8)
  /-- `LD r,n` (R202) -/
  | ldRN (r : Reg8) (n : Byte)
  /-- `LD (HL),n` (R209) -/
  | ldMemHlN (n : Byte)
  /-- `LD r,r'` (R201) -/
  | ldRR (dst : Reg8) (src : Reg8)
  /-- `LD r,(HL)` (R203) -/
  | ldRMemHl (r : Reg8)
  /-- `LD (HL),r` (R206) -/
  | ldMemHlR (r : Reg8)
  /-- `ADD A,r` (R325) -/
  | addAR (r : Reg8)
  /-- `ADD A,n` (R325) -/
  | addAN (n : Byte)
  /-- `ADC A,r` (R326) -/
  | adcAR (r : Reg8)
  /-- `ADC A,n` (R326) -/
  | adcAN (n : Byte)
  /-- `SUB r` (R327) -/
  | subR (r : Reg8)
  /-- `SUB n` (R327) -/
  | subN (n : Byte)
  /-- `SBC A,r` (R328) -/
  | sbcAR (r : Reg8)
  /-- `SBC A,n` (R328) -/
  | sbcAN (n : Byte)
  /-- `AND r` (R329) -/
  | andR (r : Reg8)
  /-- `AND n` (R329) -/
  | andN (n : Byte)
  /-- `XOR r` (R331) -/
  | xorR (r : Reg8)
  /-- `XOR n` (R331) -/
  | xorN (n : Byte)
  /-- `OR r` (R330) -/
  | orR (r : Reg8)
  /-- `OR n` (R330) -/
  | orN (n : Byte)
  /-- `CP r` (R332) -/
  | cpR (r : Reg8)
  /-- `CP n` (R332) -/
  | cpN (n : Byte)
  /-- `RET cc` (R495) -/
  | retCc (cc : Cond)
  /-- `POP qq` (R259) -/
  | popQq (qq : PairQ)
  /-- `JP cc,nn` (R482) -/
  | jpCcNn (cc : Cond) (nn : Word)
  /-- `JP nn` (R481) -/
  | jpNn (nn : Word)
  /-- `OUT (n),A` (R529) -/
  | outNA (n : Byte)
  /-- `IN A,(n)` (R521) -/
  | inAN (n : Byte)
  /-- `CALL cc,nn` (R493) -/
  | callCcNn (cc : Cond) (nn : Word)
  /-- `PUSH qq` (R256) -/
  | pushQq (qq : PairQ)
  /-- `CALL nn` (R492) -/
  | callNn (nn : Word)
  /-- `RST p` (R501) -/
  | rst (y : BitVec 3)
  /-- `RLC r` (R427) -/
  | rlcR (r : Reg8)
  /-- `RRC r` (R429) -/
  | rrcR (r : Reg8)
  /-- `RL r` (R428) -/
  | rlR (r : Reg8)
  /-- `RR r` (R430) -/
  | rrR (r : Reg8)
  /-- `SLA r` (R431) -/
  | slaR (r : Reg8)
  /-- `SRA r` (R432) -/
  | sraR (r : Reg8)
  /-- `SLL r` (R434) -/
  | sllR (r : Reg8)
  /-- `SRL r` (R433) -/
  | srlR (r : Reg8)
  /-- `BIT b,r` (R461) -/
  | bitR (b : BitVec 3) (r : Reg8)
  /-- `BIT b,(HL)` (R462) -/
  | bitMemHl (b : BitVec 3)
  /-- `RES b,r` (R469) -/
  | resR (b : BitVec 3) (r : Reg8)
  /-- `RES b,(HL)` (R470) -/
  | resMemHl (b : BitVec 3)
  /-- `SET b,r` (R465) -/
  | setR (b : BitVec 3) (r : Reg8)
  /-- `SET b,(HL)` (R466) -/
  | setMemHl (b : BitVec 3)
  /-- `IN r,(C)` (R522) -/
  | inRC (r : Reg8)
  /-- `OUT (C),r` (R530) -/
  | outCR (r : Reg8)
  /-- `SBC HL,ss` (R393) -/
  | sbcHlSs (ss : Pair)
  /-- `ADC HL,ss` (R392) -/
  | adcHlSs (ss : Pair)
  /-- `LD (nn),dd` (R249) -/
  | ldMemNnDd (nn : Word) (dd : Pair)
  /-- `LD dd,(nn)` (R245) -/
  | ldDdMemNn (dd : Pair) (nn : Word)
  /-- `NEG (mirror)` (R372) -/
  | negMirror (y : BitVec 3)
  /-- `RETN (mirror)` (R500) -/
  | retnMirror (y : BitVec 3)
  /-- `IM 0 (mirror)` (R373) -/
  | im0Mirror (y : BitVec 3)
  /-- `NOP (ED, x=0)` (R376) -/
  | nopEdX0 (y : BitVec 3) (z : BitVec 3)
  /-- `NOP (ED 77, ED 7F)` (R376) -/
  | nopEd77 (q : BitVec 1)
  /-- `NOP (ED 80-9F)` (R376) -/
  | nopEd80 (p : BitVec 1) (q : BitVec 1) (z : BitVec 3)
  /-- `NOP (ED A4-A7, AC-AF, B4-B7, BC-BF)` (R376) -/
  | nopEdA4 (p : BitVec 1) (q : BitVec 1) (z : BitVec 2)
  /-- `NOP (ED, x=3)` (R376) -/
  | nopEdX3 (y : BitVec 3) (z : BitVec 3)
  /-- `ADD IX,pp` (R394) -/
  | addIxPp (p : PairI)
  /-- `LD IX,nn` (R242) -/
  | ldIxNn (nn : Word)
  /-- `LD (nn),IX` (R250) -/
  | ldMemNnIx (nn : Word)
  /-- `LD IX,(nn)` (R246) -/
  | ldIxMemNn (nn : Word)
  /-- `INC IXH / INC IXL` (R342) -/
  | incIxHalf (h : Half)
  /-- `DEC IXH / DEC IXL` (R343) -/
  | decIxHalf (h : Half)
  /-- `LD IXH,n / LD IXL,n` (R224) -/
  | ldIxHalfN (h : Half) (n : Byte)
  /-- `INC (IX+d)` (R336) -/
  | incMemIx (d : Byte)
  /-- `DEC (IX+d)` (R340) -/
  | decMemIx (d : Byte)
  /-- `LD (IX+d),n` (R210) -/
  | ldMemIxN (d : Byte) (n : Byte)
  /-- `LD r,(IX+d)` (R204) -/
  | ldRMemIx (r : Reg8) (d : Byte)
  /-- `LD (IX+d),r` (R207) -/
  | ldMemIxR (d : Byte) (r : Reg8)
  /-- `LD p,p' with IXH/IXL` (R222) -/
  | ldPPIx (dst : RegP) (src : RegP)
  /-- `ADD A,IXH / ADD A,IXL` (R333) -/
  | addAIxHalf (h : Half)
  /-- `ADD A,(IX+d)` (R325) -/
  | addAMemIx (d : Byte)
  /-- `ADC A,IXH / ADC A,IXL` (R333) -/
  | adcAIxHalf (h : Half)
  /-- `ADC A,(IX+d)` (R326) -/
  | adcAMemIx (d : Byte)
  /-- `SUB IXH / SUB IXL` (R333) -/
  | subIxHalf (h : Half)
  /-- `SUB (IX+d)` (R327) -/
  | subMemIx (d : Byte)
  /-- `SBC A,IXH / SBC A,IXL` (R333) -/
  | sbcAIxHalf (h : Half)
  /-- `SBC A,(IX+d)` (R328) -/
  | sbcAMemIx (d : Byte)
  /-- `AND IXH / AND IXL` (R333) -/
  | andIxHalf (h : Half)
  /-- `AND (IX+d)` (R329) -/
  | andMemIx (d : Byte)
  /-- `XOR IXH / XOR IXL` (R333) -/
  | xorIxHalf (h : Half)
  /-- `XOR (IX+d)` (R331) -/
  | xorMemIx (d : Byte)
  /-- `OR IXH / OR IXL` (R333) -/
  | orIxHalf (h : Half)
  /-- `OR (IX+d)` (R330) -/
  | orMemIx (d : Byte)
  /-- `CP IXH / CP IXL` (R333) -/
  | cpIxHalf (h : Half)
  /-- `CP (IX+d)` (R332) -/
  | cpMemIx (d : Byte)
  /-- `RLC (IX+d)` (R427) -/
  | rlcMemIx (d : Byte)
  /-- `RLC (IX+d),r` (R435) -/
  | rlcMemIxR (d : Byte) (r : Reg8)
  /-- `RRC (IX+d)` (R429) -/
  | rrcMemIx (d : Byte)
  /-- `RRC (IX+d),r` (R435) -/
  | rrcMemIxR (d : Byte) (r : Reg8)
  /-- `RL (IX+d)` (R428) -/
  | rlMemIx (d : Byte)
  /-- `RL (IX+d),r` (R435) -/
  | rlMemIxR (d : Byte) (r : Reg8)
  /-- `RR (IX+d)` (R430) -/
  | rrMemIx (d : Byte)
  /-- `RR (IX+d),r` (R435) -/
  | rrMemIxR (d : Byte) (r : Reg8)
  /-- `SLA (IX+d)` (R431) -/
  | slaMemIx (d : Byte)
  /-- `SLA (IX+d),r` (R435) -/
  | slaMemIxR (d : Byte) (r : Reg8)
  /-- `SRA (IX+d)` (R432) -/
  | sraMemIx (d : Byte)
  /-- `SRA (IX+d),r` (R435) -/
  | sraMemIxR (d : Byte) (r : Reg8)
  /-- `SLL (IX+d)` (R434) -/
  | sllMemIx (d : Byte)
  /-- `SLL (IX+d),r` (R435) -/
  | sllMemIxR (d : Byte) (r : Reg8)
  /-- `SRL (IX+d)` (R433) -/
  | srlMemIx (d : Byte)
  /-- `SRL (IX+d),r` (R435) -/
  | srlMemIxR (d : Byte) (r : Reg8)
  /-- `BIT b,(IX+d)` (R463) -/
  | bitMemIx (b : BitVec 3) (d : Byte)
  /-- `BIT b,(IX+d) (z != 6)` (R473) -/
  | bitMemIxZ (b : BitVec 3) (d : Byte) (r : Reg8)
  /-- `RES b,(IX+d)` (R471) -/
  | resMemIx (b : BitVec 3) (d : Byte)
  /-- `RES b,(IX+d),r` (R474) -/
  | resMemIxR (b : BitVec 3) (d : Byte) (r : Reg8)
  /-- `SET b,(IX+d)` (R467) -/
  | setMemIx (b : BitVec 3) (d : Byte)
  /-- `SET b,(IX+d),r` (R474) -/
  | setMemIxR (b : BitVec 3) (d : Byte) (r : Reg8)
  /-- `ADD IY,rr` (R395) -/
  | addIyRr (p : PairI)
  /-- `LD IY,nn` (R243) -/
  | ldIyNn (nn : Word)
  /-- `LD (nn),IY` (R251) -/
  | ldMemNnIy (nn : Word)
  /-- `LD IY,(nn)` (R247) -/
  | ldIyMemNn (nn : Word)
  /-- `INC IYH / INC IYL` (R342) -/
  | incIyHalf (h : Half)
  /-- `DEC IYH / DEC IYL` (R343) -/
  | decIyHalf (h : Half)
  /-- `LD IYH,n / LD IYL,n` (R224) -/
  | ldIyHalfN (h : Half) (n : Byte)
  /-- `INC (IY+d)` (R337) -/
  | incMemIy (d : Byte)
  /-- `DEC (IY+d)` (R341) -/
  | decMemIy (d : Byte)
  /-- `LD (IY+d),n` (R211) -/
  | ldMemIyN (d : Byte) (n : Byte)
  /-- `LD r,(IY+d)` (R205) -/
  | ldRMemIy (r : Reg8) (d : Byte)
  /-- `LD (IY+d),r` (R208) -/
  | ldMemIyR (d : Byte) (r : Reg8)
  /-- `LD p,p' with IYH/IYL` (R223) -/
  | ldPPIy (dst : RegP) (src : RegP)
  /-- `ADD A,IYH / ADD A,IYL` (R333) -/
  | addAIyHalf (h : Half)
  /-- `ADD A,(IY+d)` (R325) -/
  | addAMemIy (d : Byte)
  /-- `ADC A,IYH / ADC A,IYL` (R333) -/
  | adcAIyHalf (h : Half)
  /-- `ADC A,(IY+d)` (R326) -/
  | adcAMemIy (d : Byte)
  /-- `SUB IYH / SUB IYL` (R333) -/
  | subIyHalf (h : Half)
  /-- `SUB (IY+d)` (R327) -/
  | subMemIy (d : Byte)
  /-- `SBC A,IYH / SBC A,IYL` (R333) -/
  | sbcAIyHalf (h : Half)
  /-- `SBC A,(IY+d)` (R328) -/
  | sbcAMemIy (d : Byte)
  /-- `AND IYH / AND IYL` (R333) -/
  | andIyHalf (h : Half)
  /-- `AND (IY+d)` (R329) -/
  | andMemIy (d : Byte)
  /-- `XOR IYH / XOR IYL` (R333) -/
  | xorIyHalf (h : Half)
  /-- `XOR (IY+d)` (R331) -/
  | xorMemIy (d : Byte)
  /-- `OR IYH / OR IYL` (R333) -/
  | orIyHalf (h : Half)
  /-- `OR (IY+d)` (R330) -/
  | orMemIy (d : Byte)
  /-- `CP IYH / CP IYL` (R333) -/
  | cpIyHalf (h : Half)
  /-- `CP (IY+d)` (R332) -/
  | cpMemIy (d : Byte)
  /-- `RLC (IY+d)` (R427) -/
  | rlcMemIy (d : Byte)
  /-- `RLC (IY+d),r` (R435) -/
  | rlcMemIyR (d : Byte) (r : Reg8)
  /-- `RRC (IY+d)` (R429) -/
  | rrcMemIy (d : Byte)
  /-- `RRC (IY+d),r` (R435) -/
  | rrcMemIyR (d : Byte) (r : Reg8)
  /-- `RL (IY+d)` (R428) -/
  | rlMemIy (d : Byte)
  /-- `RL (IY+d),r` (R435) -/
  | rlMemIyR (d : Byte) (r : Reg8)
  /-- `RR (IY+d)` (R430) -/
  | rrMemIy (d : Byte)
  /-- `RR (IY+d),r` (R435) -/
  | rrMemIyR (d : Byte) (r : Reg8)
  /-- `SLA (IY+d)` (R431) -/
  | slaMemIy (d : Byte)
  /-- `SLA (IY+d),r` (R435) -/
  | slaMemIyR (d : Byte) (r : Reg8)
  /-- `SRA (IY+d)` (R432) -/
  | sraMemIy (d : Byte)
  /-- `SRA (IY+d),r` (R435) -/
  | sraMemIyR (d : Byte) (r : Reg8)
  /-- `SLL (IY+d)` (R434) -/
  | sllMemIy (d : Byte)
  /-- `SLL (IY+d),r` (R435) -/
  | sllMemIyR (d : Byte) (r : Reg8)
  /-- `SRL (IY+d)` (R433) -/
  | srlMemIy (d : Byte)
  /-- `SRL (IY+d),r` (R435) -/
  | srlMemIyR (d : Byte) (r : Reg8)
  /-- `BIT b,(IY+d)` (R464) -/
  | bitMemIy (b : BitVec 3) (d : Byte)
  /-- `BIT b,(IY+d) (z != 6)` (R473) -/
  | bitMemIyZ (b : BitVec 3) (d : Byte) (r : Reg8)
  /-- `RES b,(IY+d)` (R472) -/
  | resMemIy (b : BitVec 3) (d : Byte)
  /-- `RES b,(IY+d),r` (R474) -/
  | resMemIyR (b : BitVec 3) (d : Byte) (r : Reg8)
  /-- `SET b,(IY+d)` (R468) -/
  | setMemIy (b : BitVec 3) (d : Byte)
  /-- `SET b,(IY+d),r` (R474) -/
  | setMemIyR (b : BitVec 3) (d : Byte) (r : Reg8)
  /-- `NOP` (R365) -/
  | nop
  /-- `EX AF,AF'` (R281) -/
  | exAfAf
  /-- `LD (BC),A` (R215) -/
  | ldMemBcA
  /-- `LD A,(BC)` (R212) -/
  | ldAMemBc
  /-- `LD (DE),A` (R216) -/
  | ldMemDeA
  /-- `LD A,(DE)` (R213) -/
  | ldAMemDe
  /-- `INC (HL)` (R335) -/
  | incMemHl
  /-- `DEC (HL)` (R339) -/
  | decMemHl
  /-- `RLCA` (R421) -/
  | rlca
  /-- `RRCA` (R423) -/
  | rrca
  /-- `RLA` (R422) -/
  | rla
  /-- `RRA` (R424) -/
  | rra
  /-- `DAA` (R360) -/
  | daa
  /-- `CPL` (R361) -/
  | cpl
  /-- `SCF` (R364) -/
  | scf
  /-- `CCF` (R363) -/
  | ccf
  /-- `HALT` (R366) -/
  | halt
  /-- `ADD A,(HL)` (R325) -/
  | addAMemHl
  /-- `ADC A,(HL)` (R326) -/
  | adcAMemHl
  /-- `SUB (HL)` (R327) -/
  | subMemHl
  /-- `SBC A,(HL)` (R328) -/
  | sbcAMemHl
  /-- `AND (HL)` (R329) -/
  | andMemHl
  /-- `XOR (HL)` (R331) -/
  | xorMemHl
  /-- `OR (HL)` (R330) -/
  | orMemHl
  /-- `CP (HL)` (R332) -/
  | cpMemHl
  /-- `RET` (R494) -/
  | ret
  /-- `EXX` (R282) -/
  | exx
  /-- `JP (HL)` (R488) -/
  | jpHl
  /-- `LD SP,HL` (R252) -/
  | ldSpHl
  /-- `(prefix CB)` (R141) -/
  | prefixCb
  /-- `EX (SP),HL` (R284) -/
  | exMemSpHl
  /-- `EX DE,HL` (R283) -/
  | exDeHl
  /-- `DI` (R367) -/
  | di
  /-- `EI` (R368) -/
  | ei
  /-- `(prefix DD)` (R141) -/
  | prefixDd
  /-- `(prefix ED)` (R141) -/
  | prefixEd
  /-- `(prefix FD)` (R141) -/
  | prefixFd
  /-- `RLC (HL)` (R427) -/
  | rlcMemHl
  /-- `RRC (HL)` (R429) -/
  | rrcMemHl
  /-- `RL (HL)` (R428) -/
  | rlMemHl
  /-- `RR (HL)` (R430) -/
  | rrMemHl
  /-- `SLA (HL)` (R431) -/
  | slaMemHl
  /-- `SRA (HL)` (R432) -/
  | sraMemHl
  /-- `SLL (HL)` (R434) -/
  | sllMemHl
  /-- `SRL (HL)` (R433) -/
  | srlMemHl
  /-- `IN (C)` (R523) -/
  | inC
  /-- `OUT (C),0` (R532) -/
  | outC0
  /-- `NEG` (R362) -/
  | neg
  /-- `RETN` (R499) -/
  | retn
  /-- `RETI` (R498) -/
  | reti
  /-- `IM 0` (R369) -/
  | im0
  /-- `IM 1` (R370) -/
  | im1
  /-- `IM 2` (R371) -/
  | im2
  /-- `IM 1 (mirror)` (R373) -/
  | im1Mirror
  /-- `IM 2 (mirror)` (R373) -/
  | im2Mirror
  /-- `LD I,A` (R220) -/
  | ldIA
  /-- `LD R,A` (R221) -/
  | ldRA
  /-- `LD A,I` (R218) -/
  | ldAI
  /-- `LD A,R` (R219) -/
  | ldAR
  /-- `RRD` (R437) -/
  | rrd
  /-- `RLD` (R436) -/
  | rld
  /-- `LDI` (R288) -/
  | ldi
  /-- `CPI` (R292) -/
  | cpi
  /-- `INI` (R524) -/
  | ini
  /-- `OUTI` (R533) -/
  | outi
  /-- `LDD` (R290) -/
  | ldd
  /-- `CPD` (R294) -/
  | cpd
  /-- `IND` (R526) -/
  | ind
  /-- `OUTD` (R535) -/
  | outd
  /-- `LDIR` (R289) -/
  | ldir
  /-- `CPIR` (R293) -/
  | cpir
  /-- `INIR` (R525) -/
  | inir
  /-- `OTIR` (R534) -/
  | otir
  /-- `LDDR` (R291) -/
  | lddr
  /-- `CPDR` (R295) -/
  | cpdr
  /-- `INDR` (R528) -/
  | indr
  /-- `OTDR` (R536) -/
  | otdr
  /-- `INC IX` (R397) -/
  | incIx
  /-- `DEC IX` (R400) -/
  | decIx
  /-- `(prefix DD CB)` (R153) -/
  | prefixDdCb
  /-- `POP IX` (R260) -/
  | popIx
  /-- `EX (SP),IX` (R285) -/
  | exMemSpIx
  /-- `PUSH IX` (R257) -/
  | pushIx
  /-- `JP (IX)` (R489) -/
  | jpIx
  /-- `LD SP,IX` (R254) -/
  | ldSpIx
  /-- `NONI (DD prefix alone; next byte not consumed)` (R152) -/
  | noniDd
  /-- `INC IY` (R398) -/
  | incIy
  /-- `DEC IY` (R401) -/
  | decIy
  /-- `(prefix FD CB)` (R153) -/
  | prefixFdCb
  /-- `POP IY` (R261) -/
  | popIy
  /-- `EX (SP),IY` (R286) -/
  | exMemSpIy
  /-- `PUSH IY` (R258) -/
  | pushIy
  /-- `JP (IY)` (R490) -/
  | jpIy
  /-- `LD SP,IY` (R255) -/
  | ldSpIy
  /-- `NONI (FD prefix alone; next byte not consumed)` (R152) -/
  | noniFd
  deriving DecidableEq, Repr

end Sys2Proof
end

