-- ==== Sys2Proof/Machine/Operands.lean ====
section
/-! DEFINITION. Every operand form: 8-bit registers, register pairs as views (10_state R21), index registers and their halves (R23),
indexed addresses (30_encoding R144) and conditions (R148). -/

namespace Sys2Proof.Machine

/-- `r8[i]`, a main-set register (30_encoding R145). -/
def State.getR8 (s : State) : Reg8 → Byte
  | .b => s.cpu.b
  | .c => s.cpu.c
  | .d => s.cpu.d
  | .e => s.cpu.e
  | .h => s.cpu.h
  | .l => s.cpu.l
  | .a => s.cpu.a

/-- `r8[i] <- v` (30_encoding R145). -/
def State.setR8 (s : State) (r : Reg8) (v : Byte) : State :=
  match r with
  | .b => { s with cpu.b := v }
  | .c => { s with cpu.c := v }
  | .d => { s with cpu.d := v }
  | .e => { s with cpu.e := v }
  | .h => { s with cpu.h := v }
  | .l => { s with cpu.l := v }
  | .a => { s with cpu.a := v }

/-- `BC = B:C` (10_state R21). -/
def State.bc (s : State) : Word := wordOf s.cpu.b s.cpu.c

/-- `DE = D:E` (10_state R21). -/
def State.de (s : State) : Word := wordOf s.cpu.d s.cpu.e

/-- `HL = H:L` (10_state R21). -/
def State.hl (s : State) : Word := wordOf s.cpu.h s.cpu.l

/-- `AF = A:F` (10_state R21). -/
def State.af (s : State) : Word := wordOf s.cpu.a s.cpu.f.toByte

/-- `BC <- v` (10_state R21). -/
def State.setBc (s : State) (v : Word) : State := { s with cpu.b := hiByte v, cpu.c := loByte v }

/-- `DE <- v` (10_state R21). -/
def State.setDe (s : State) (v : Word) : State := { s with cpu.d := hiByte v, cpu.e := loByte v }

/-- `HL <- v` (10_state R21). -/
def State.setHl (s : State) (v : Word) : State := { s with cpu.h := hiByte v, cpu.l := loByte v }

/-- `AF <- v`, all eight bits of F (41_load16_stack R259). -/
def State.setAf (s : State) (v : Word) : State := { s with cpu.a := hiByte v, cpu.f := Flags.ofByte (loByte v) }

/-- `IX <- v`. -/
def State.setIx (s : State) (v : Word) : State := { s with cpu.ix := v }

/-- `IY <- v`. -/
def State.setIy (s : State) (v : Word) : State := { s with cpu.iy := v }

/-- `r16[p]` of the `dd`/`ss` kind (30_encoding R146). -/
def State.getPair (s : State) : Pair → Word
  | .bc => s.bc
  | .de => s.de
  | .hl => s.hl
  | .sp => s.cpu.sp

/-- `r16[p] <- v` of the `dd`/`ss` kind (30_encoding R146). -/
def State.setPair (s : State) (p : Pair) (v : Word) : State :=
  match p with
  | .bc => s.setBc v
  | .de => s.setDe v
  | .hl => s.setHl v
  | .sp => s.setSp v

/-- `r16q[p]` (30_encoding R147). -/
def State.getPairQ (s : State) : PairQ → Word
  | .bc => s.bc
  | .de => s.de
  | .hl => s.hl
  | .af => s.af

/-- `r16q[p] <- v` (30_encoding R147). -/
def State.setPairQ (s : State) (p : PairQ) (v : Word) : State :=
  match p with
  | .bc => s.setBc v
  | .de => s.setDe v
  | .hl => s.setHl v
  | .af => s.setAf v

/-- The source of `ADD IX,pp` and `ADD IY,rr`, `idx` the index register (30_encoding R146). -/
def State.getPairI (s : State) (idx : Word) : PairI → Word
  | .bc => s.bc
  | .de => s.de
  | .idx => idx
  | .sp => s.cpu.sp

/-- A half of an index register (10_state R23). -/
def getHalf (idx : Word) : Half → Byte
  | .hi => hiByte idx
  | .lo => loByte idx

/-- An index register with one half replaced, the other unchanged (10_state R23). -/
def setHalf (idx : Word) (h : Half) (v : Byte) : Word :=
  match h with
  | .hi => wordOf v (loByte idx)
  | .lo => wordOf (hiByte idx) v

/-- The source of `LD p,p'`, `idx` the index register (40_load8 R222). -/
def State.getRegP (s : State) (idx : Word) : RegP → Byte
  | .b => s.cpu.b
  | .c => s.cpu.c
  | .d => s.cpu.d
  | .e => s.cpu.e
  | .hi => hiByte idx
  | .lo => loByte idx
  | .a => s.cpu.a

/-- The destination of `LD p,p'` with IX halves written (40_load8 R222). -/
def State.setRegPIx (s : State) (p : RegP) (v : Byte) : State :=
  match p with
  | .b => s.setR8 .b v
  | .c => s.setR8 .c v
  | .d => s.setR8 .d v
  | .e => s.setR8 .e v
  | .hi => s.setIx (setHalf s.cpu.ix .hi v)
  | .lo => s.setIx (setHalf s.cpu.ix .lo v)
  | .a => s.setR8 .a v

/-- The destination of `LD q,q'` with IY halves written (40_load8 R223). -/
def State.setRegPIy (s : State) (p : RegP) (v : Byte) : State :=
  match p with
  | .b => s.setR8 .b v
  | .c => s.setR8 .c v
  | .d => s.setR8 .d v
  | .e => s.setR8 .e v
  | .hi => s.setIy (setHalf s.cpu.iy .hi v)
  | .lo => s.setIy (setHalf s.cpu.iy .lo v)
  | .a => s.setR8 .a v

/-- `trunc16(IX + sext_16(d))` (30_encoding R144). -/
def State.ixd (s : State) (d : Byte) : Word := s.cpu.ix + sext16 d

/-- `trunc16(IY + sext_16(d))` (30_encoding R144). -/
def State.iyd (s : State) (d : Byte) : Word := s.cpu.iy + sext16 d

/-- Whether a condition holds of F (30_encoding R148). -/
def condHolds (f : Flags) : Cond → Bool
  | .nz => !f.z
  | .z => f.z
  | .nc => !f.c
  | .c => f.c
  | .po => !f.pv
  | .pe => f.pv
  | .p => !f.s
  | .m => f.s

end Sys2Proof.Machine
end

