-- ==== Sys2Proof/Machine/Alu16.lean ====
section
/-! DEFINITION. The 16-bit arithmetic group (45_alu16 R390 to R401). One meaning per instruction: its effect, then its cost added once
(30_encoding R141). -/

namespace Sys2Proof.Machine

/-- `ADD HL,ss` (45_alu16 R391). -/
def State.addHl (s : State) (v : Word) : State :=
  let t := add16 s.hl v s.cpu.f s.free
  (s.writeF t.2).setHl t.1

/-- `ADC HL,ss` (45_alu16 R392). -/
def State.adcHl (s : State) (v : Word) : State :=
  let t := adc16 s.hl v s.cpu.f.c s.free
  (s.writeF t.2).setHl t.1

/-- `SBC HL,ss` (45_alu16 R393). -/
def State.sbcHl (s : State) (v : Word) : State :=
  let t := sbc16 s.hl v s.cpu.f.c s.free
  (s.writeF t.2).setHl t.1

/-- `ADD IX,pp` (45_alu16 R394). -/
def State.addIx (s : State) (v : Word) : State :=
  let t := add16 s.cpu.ix v s.cpu.f s.free
  (s.writeF t.2).setIx t.1

/-- `ADD IY,rr` (45_alu16 R395). -/
def State.addIy (s : State) (v : Word) : State :=
  let t := add16 s.cpu.iy v s.cpu.f s.free
  (s.writeF t.2).setIy t.1

/-- `ADD HL,ss` (R391). -/
def execAddHlSs (ss : Pair) (s : State) : Out := finish 11 (s.addHl (s.getPair ss))

/-- `INC ss` (R396). -/
def execIncSs (ss : Pair) (s : State) : Out := finish 6 (s.setPair ss (s.getPair ss + 1))

/-- `DEC ss` (R399). -/
def execDecSs (ss : Pair) (s : State) : Out := finish 6 (s.setPair ss (s.getPair ss - 1))

/-- `SBC HL,ss` (R393). -/
def execSbcHlSs (ss : Pair) (s : State) : Out := finish 15 (s.sbcHl (s.getPair ss))

/-- `ADC HL,ss` (R392). -/
def execAdcHlSs (ss : Pair) (s : State) : Out := finish 15 (s.adcHl (s.getPair ss))

/-- `ADD IX,pp` (R394). -/
def execAddIxPp (p : PairI) (s : State) : Out := finish 15 (s.addIx (s.getPairI s.cpu.ix p))

/-- `INC IX` (R397). -/
def execIncIx (s : State) : Out := finish 10 (s.setIx (s.cpu.ix + 1))

/-- `DEC IX` (R400). -/
def execDecIx (s : State) : Out := finish 10 (s.setIx (s.cpu.ix - 1))

/-- `ADD IY,rr` (R395). -/
def execAddIyRr (p : PairI) (s : State) : Out := finish 15 (s.addIy (s.getPairI s.cpu.iy p))

/-- `INC IY` (R398). -/
def execIncIy (s : State) : Out := finish 10 (s.setIy (s.cpu.iy + 1))

/-- `DEC IY` (R401). -/
def execDecIy (s : State) : Out := finish 10 (s.setIy (s.cpu.iy - 1))

end Sys2Proof.Machine
end

