-- ==== Sys2Proof/Machine/Alu8.lean ====
section
/-! DEFINITION. The 8-bit arithmetic and logical group (43_alu8 R320 to R344). One meaning per instruction: its effect, then its cost added once
(30_encoding R141). -/

namespace Sys2Proof.Machine

/-- A and the flags from an operation's result (43_alu8 R320). -/
def State.setAF (s : State) (t : Byte × Flags) : State := (s.writeF t.2).setR8 .a t.1

/-- `ADD A,s` (43_alu8 R325). -/
def State.aluAdd (s : State) (v : Byte) : State := s.setAF (add8 s.cpu.a v false s.free)

/-- `ADC A,s` (43_alu8 R326). -/
def State.aluAdc (s : State) (v : Byte) : State := s.setAF (add8 s.cpu.a v s.cpu.f.c s.free)

/-- `SUB s` (43_alu8 R327). -/
def State.aluSub (s : State) (v : Byte) : State := s.setAF (sub8 s.cpu.a v false s.free)

/-- `SBC A,s` (43_alu8 R328). -/
def State.aluSbc (s : State) (v : Byte) : State := s.setAF (sub8 s.cpu.a v s.cpu.f.c s.free)

/-- `AND s` (43_alu8 R329). -/
def State.aluAnd (s : State) (v : Byte) : State := s.setAF (s.cpu.a &&& v, logic8 (s.cpu.a &&& v) true s.free)

/-- `XOR s` (43_alu8 R331). -/
def State.aluXor (s : State) (v : Byte) : State := s.setAF (s.cpu.a ^^^ v, logic8 (s.cpu.a ^^^ v) false s.free)

/-- `OR s` (43_alu8 R330). -/
def State.aluOr (s : State) (v : Byte) : State := s.setAF (s.cpu.a ||| v, logic8 (s.cpu.a ||| v) false s.free)

/-- `CP s`: the flags of `SUB`, A not written (43_alu8 R332). -/
def State.aluCp (s : State) (v : Byte) : State := s.writeF (sub8 s.cpu.a v false s.free).2

/-- `INC r` (43_alu8 R334). -/
def State.incR8 (s : State) (r : Reg8) : State :=
  let t := inc8 (s.getR8 r) s.cpu.f s.free
  (s.writeF t.2).setR8 r t.1

/-- `DEC r` (43_alu8 R338). -/
def State.decR8 (s : State) (r : Reg8) : State :=
  let t := dec8 (s.getR8 r) s.cpu.f s.free
  (s.writeF t.2).setR8 r t.1

/-- `INC` of the byte at an address; the flags hold even if the store is discarded (43_alu8 R335). -/
def State.incMem (s : State) (a : Word) : State :=
  let t := inc8 (s.memRead a) s.cpu.f s.free
  (s.memWrite a t.1).writeF t.2

/-- `DEC` of the byte at an address (43_alu8 R339). -/
def State.decMem (s : State) (a : Word) : State :=
  let t := dec8 (s.memRead a) s.cpu.f s.free
  (s.memWrite a t.1).writeF t.2

/-- `INC` of a half of IX (43_alu8 R342). -/
def State.incIxHalf (s : State) (h : Half) : State :=
  let t := inc8 (getHalf s.cpu.ix h) s.cpu.f s.free
  (s.writeF t.2).setIx (setHalf s.cpu.ix h t.1)

/-- `INC` of a half of IY (43_alu8 R342). -/
def State.incIyHalf (s : State) (h : Half) : State :=
  let t := inc8 (getHalf s.cpu.iy h) s.cpu.f s.free
  (s.writeF t.2).setIy (setHalf s.cpu.iy h t.1)

/-- `DEC` of a half of IX (43_alu8 R343). -/
def State.decIxHalf (s : State) (h : Half) : State :=
  let t := dec8 (getHalf s.cpu.ix h) s.cpu.f s.free
  (s.writeF t.2).setIx (setHalf s.cpu.ix h t.1)

/-- `DEC` of a half of IY (43_alu8 R343). -/
def State.decIyHalf (s : State) (h : Half) : State :=
  let t := dec8 (getHalf s.cpu.iy h) s.cpu.f s.free
  (s.writeF t.2).setIy (setHalf s.cpu.iy h t.1)

/-- `INC r` (R334). -/
def execIncR (r : Reg8) (s : State) : Out := finish 4 (s.incR8 r)

/-- `INC (HL)` (R335). -/
def execIncMemHl (s : State) : Out := finish 11 (s.incMem s.hl)

/-- `DEC r` (R338). -/
def execDecR (r : Reg8) (s : State) : Out := finish 4 (s.decR8 r)

/-- `DEC (HL)` (R339). -/
def execDecMemHl (s : State) : Out := finish 11 (s.decMem s.hl)

/-- `ADD A,r` (R325). -/
def execAddAR (r : Reg8) (s : State) : Out := finish 4 (s.aluAdd (s.getR8 r))

/-- `ADD A,(HL)` (R325). -/
def execAddAMemHl (s : State) : Out := finish 7 (s.aluAdd (s.memRead s.hl))

/-- `ADD A,n` (R325). -/
def execAddAN (n : Byte) (s : State) : Out := finish 7 (s.aluAdd n)

/-- `ADC A,r` (R326). -/
def execAdcAR (r : Reg8) (s : State) : Out := finish 4 (s.aluAdc (s.getR8 r))

/-- `ADC A,(HL)` (R326). -/
def execAdcAMemHl (s : State) : Out := finish 7 (s.aluAdc (s.memRead s.hl))

/-- `ADC A,n` (R326). -/
def execAdcAN (n : Byte) (s : State) : Out := finish 7 (s.aluAdc n)

/-- `SUB r` (R327). -/
def execSubR (r : Reg8) (s : State) : Out := finish 4 (s.aluSub (s.getR8 r))

/-- `SUB (HL)` (R327). -/
def execSubMemHl (s : State) : Out := finish 7 (s.aluSub (s.memRead s.hl))

/-- `SUB n` (R327). -/
def execSubN (n : Byte) (s : State) : Out := finish 7 (s.aluSub n)

/-- `SBC A,r` (R328). -/
def execSbcAR (r : Reg8) (s : State) : Out := finish 4 (s.aluSbc (s.getR8 r))

/-- `SBC A,(HL)` (R328). -/
def execSbcAMemHl (s : State) : Out := finish 7 (s.aluSbc (s.memRead s.hl))

/-- `SBC A,n` (R328). -/
def execSbcAN (n : Byte) (s : State) : Out := finish 7 (s.aluSbc n)

/-- `AND r` (R329). -/
def execAndR (r : Reg8) (s : State) : Out := finish 4 (s.aluAnd (s.getR8 r))

/-- `AND (HL)` (R329). -/
def execAndMemHl (s : State) : Out := finish 7 (s.aluAnd (s.memRead s.hl))

/-- `AND n` (R329). -/
def execAndN (n : Byte) (s : State) : Out := finish 7 (s.aluAnd n)

/-- `XOR r` (R331). -/
def execXorR (r : Reg8) (s : State) : Out := finish 4 (s.aluXor (s.getR8 r))

/-- `XOR (HL)` (R331). -/
def execXorMemHl (s : State) : Out := finish 7 (s.aluXor (s.memRead s.hl))

/-- `XOR n` (R331). -/
def execXorN (n : Byte) (s : State) : Out := finish 7 (s.aluXor n)

/-- `OR r` (R330). -/
def execOrR (r : Reg8) (s : State) : Out := finish 4 (s.aluOr (s.getR8 r))

/-- `OR (HL)` (R330). -/
def execOrMemHl (s : State) : Out := finish 7 (s.aluOr (s.memRead s.hl))

/-- `OR n` (R330). -/
def execOrN (n : Byte) (s : State) : Out := finish 7 (s.aluOr n)

/-- `CP r` (R332). -/
def execCpR (r : Reg8) (s : State) : Out := finish 4 (s.aluCp (s.getR8 r))

/-- `CP (HL)` (R332). -/
def execCpMemHl (s : State) : Out := finish 7 (s.aluCp (s.memRead s.hl))

/-- `CP n` (R332). -/
def execCpN (n : Byte) (s : State) : Out := finish 7 (s.aluCp n)

/-- `INC IXH / INC IXL` (R342). -/
def execIncIxHalf (h : Half) (s : State) : Out := finish 8 (s.incIxHalf h)

/-- `DEC IXH / DEC IXL` (R343). -/
def execDecIxHalf (h : Half) (s : State) : Out := finish 8 (s.decIxHalf h)

/-- `INC (IX+d)` (R336). -/
def execIncMemIx (d : Byte) (s : State) : Out := finish 23 (s.incMem (s.ixd d))

/-- `DEC (IX+d)` (R340). -/
def execDecMemIx (d : Byte) (s : State) : Out := finish 23 (s.decMem (s.ixd d))

/-- `ADD A,IXH / ADD A,IXL` (R333). -/
def execAddAIxHalf (h : Half) (s : State) : Out := finish 8 (s.aluAdd (getHalf s.cpu.ix h))

/-- `ADD A,(IX+d)` (R325). -/
def execAddAMemIx (d : Byte) (s : State) : Out := finish 19 (s.aluAdd (s.memRead (s.ixd d)))

/-- `ADC A,IXH / ADC A,IXL` (R333). -/
def execAdcAIxHalf (h : Half) (s : State) : Out := finish 8 (s.aluAdc (getHalf s.cpu.ix h))

/-- `ADC A,(IX+d)` (R326). -/
def execAdcAMemIx (d : Byte) (s : State) : Out := finish 19 (s.aluAdc (s.memRead (s.ixd d)))

/-- `SUB IXH / SUB IXL` (R333). -/
def execSubIxHalf (h : Half) (s : State) : Out := finish 8 (s.aluSub (getHalf s.cpu.ix h))

/-- `SUB (IX+d)` (R327). -/
def execSubMemIx (d : Byte) (s : State) : Out := finish 19 (s.aluSub (s.memRead (s.ixd d)))

/-- `SBC A,IXH / SBC A,IXL` (R333). -/
def execSbcAIxHalf (h : Half) (s : State) : Out := finish 8 (s.aluSbc (getHalf s.cpu.ix h))

/-- `SBC A,(IX+d)` (R328). -/
def execSbcAMemIx (d : Byte) (s : State) : Out := finish 19 (s.aluSbc (s.memRead (s.ixd d)))

/-- `AND IXH / AND IXL` (R333). -/
def execAndIxHalf (h : Half) (s : State) : Out := finish 8 (s.aluAnd (getHalf s.cpu.ix h))

/-- `AND (IX+d)` (R329). -/
def execAndMemIx (d : Byte) (s : State) : Out := finish 19 (s.aluAnd (s.memRead (s.ixd d)))

/-- `XOR IXH / XOR IXL` (R333). -/
def execXorIxHalf (h : Half) (s : State) : Out := finish 8 (s.aluXor (getHalf s.cpu.ix h))

/-- `XOR (IX+d)` (R331). -/
def execXorMemIx (d : Byte) (s : State) : Out := finish 19 (s.aluXor (s.memRead (s.ixd d)))

/-- `OR IXH / OR IXL` (R333). -/
def execOrIxHalf (h : Half) (s : State) : Out := finish 8 (s.aluOr (getHalf s.cpu.ix h))

/-- `OR (IX+d)` (R330). -/
def execOrMemIx (d : Byte) (s : State) : Out := finish 19 (s.aluOr (s.memRead (s.ixd d)))

/-- `CP IXH / CP IXL` (R333). -/
def execCpIxHalf (h : Half) (s : State) : Out := finish 8 (s.aluCp (getHalf s.cpu.ix h))

/-- `CP (IX+d)` (R332). -/
def execCpMemIx (d : Byte) (s : State) : Out := finish 19 (s.aluCp (s.memRead (s.ixd d)))

/-- `INC IYH / INC IYL` (R342). -/
def execIncIyHalf (h : Half) (s : State) : Out := finish 8 (s.incIyHalf h)

/-- `DEC IYH / DEC IYL` (R343). -/
def execDecIyHalf (h : Half) (s : State) : Out := finish 8 (s.decIyHalf h)

/-- `INC (IY+d)` (R337). -/
def execIncMemIy (d : Byte) (s : State) : Out := finish 23 (s.incMem (s.iyd d))

/-- `DEC (IY+d)` (R341). -/
def execDecMemIy (d : Byte) (s : State) : Out := finish 23 (s.decMem (s.iyd d))

/-- `ADD A,IYH / ADD A,IYL` (R333). -/
def execAddAIyHalf (h : Half) (s : State) : Out := finish 8 (s.aluAdd (getHalf s.cpu.iy h))

/-- `ADD A,(IY+d)` (R325). -/
def execAddAMemIy (d : Byte) (s : State) : Out := finish 19 (s.aluAdd (s.memRead (s.iyd d)))

/-- `ADC A,IYH / ADC A,IYL` (R333). -/
def execAdcAIyHalf (h : Half) (s : State) : Out := finish 8 (s.aluAdc (getHalf s.cpu.iy h))

/-- `ADC A,(IY+d)` (R326). -/
def execAdcAMemIy (d : Byte) (s : State) : Out := finish 19 (s.aluAdc (s.memRead (s.iyd d)))

/-- `SUB IYH / SUB IYL` (R333). -/
def execSubIyHalf (h : Half) (s : State) : Out := finish 8 (s.aluSub (getHalf s.cpu.iy h))

/-- `SUB (IY+d)` (R327). -/
def execSubMemIy (d : Byte) (s : State) : Out := finish 19 (s.aluSub (s.memRead (s.iyd d)))

/-- `SBC A,IYH / SBC A,IYL` (R333). -/
def execSbcAIyHalf (h : Half) (s : State) : Out := finish 8 (s.aluSbc (getHalf s.cpu.iy h))

/-- `SBC A,(IY+d)` (R328). -/
def execSbcAMemIy (d : Byte) (s : State) : Out := finish 19 (s.aluSbc (s.memRead (s.iyd d)))

/-- `AND IYH / AND IYL` (R333). -/
def execAndIyHalf (h : Half) (s : State) : Out := finish 8 (s.aluAnd (getHalf s.cpu.iy h))

/-- `AND (IY+d)` (R329). -/
def execAndMemIy (d : Byte) (s : State) : Out := finish 19 (s.aluAnd (s.memRead (s.iyd d)))

/-- `XOR IYH / XOR IYL` (R333). -/
def execXorIyHalf (h : Half) (s : State) : Out := finish 8 (s.aluXor (getHalf s.cpu.iy h))

/-- `XOR (IY+d)` (R331). -/
def execXorMemIy (d : Byte) (s : State) : Out := finish 19 (s.aluXor (s.memRead (s.iyd d)))

/-- `OR IYH / OR IYL` (R333). -/
def execOrIyHalf (h : Half) (s : State) : Out := finish 8 (s.aluOr (getHalf s.cpu.iy h))

/-- `OR (IY+d)` (R330). -/
def execOrMemIy (d : Byte) (s : State) : Out := finish 19 (s.aluOr (s.memRead (s.iyd d)))

/-- `CP IYH / CP IYL` (R333). -/
def execCpIyHalf (h : Half) (s : State) : Out := finish 8 (s.aluCp (getHalf s.cpu.iy h))

/-- `CP (IY+d)` (R332). -/
def execCpMemIy (d : Byte) (s : State) : Out := finish 19 (s.aluCp (s.memRead (s.iyd d)))

end Sys2Proof.Machine
end

