-- ==== Sys2Proof/Machine/Bit.lean ====
section
/-! DEFINITION. The bit set, reset and test group (47_bit R460 to R474). One meaning per instruction: its effect, then its cost added once
(30_encoding R141). -/

namespace Sys2Proof.Machine

/-- `BIT b` of a value: flags alone (47_bit R461). -/
def State.bitTest (s : State) (v : Byte) (b : BitVec 3) : State := s.writeF (bitFlags v b s.cpu.f s.free)

/-- `v or (1 << b)` (47_bit R465). -/
def set8 (v : Byte) (b : BitVec 3) : Byte := v ||| bitMask b

/-- `v and (0xFF xor (1 << b))` (47_bit R469). -/
def res8 (v : Byte) (b : BitVec 3) : Byte := v &&& (0xFF ^^^ bitMask b)

/-- `SET b` of the byte at an address (47_bit R466). -/
def State.setMem (s : State) (a : Word) (b : BitVec 3) : State := s.memWrite a (set8 (s.memRead a) b)

/-- `RES b` of the byte at an address (47_bit R470). -/
def State.resMem (s : State) (a : Word) (b : BitVec 3) : State := s.memWrite a (res8 (s.memRead a) b)

/-- `SET b` of the byte at an address with the result copied into a register (47_bit R474). -/
def State.setMemCopy (s : State) (a : Word) (b : BitVec 3) (r : Reg8) : State :=
  (s.setMem a b).setR8 r (set8 (s.memRead a) b)

/-- `RES b` of the byte at an address with the result copied into a register (47_bit R474). -/
def State.resMemCopy (s : State) (a : Word) (b : BitVec 3) (r : Reg8) : State :=
  (s.resMem a b).setR8 r (res8 (s.memRead a) b)

/-- `BIT b,r` (R461). -/
def execBitR (b : BitVec 3) (r : Reg8) (s : State) : Out := finish 8 (s.bitTest (s.getR8 r) b)

/-- `BIT b,(HL)` (R462). -/
def execBitMemHl (b : BitVec 3) (s : State) : Out := finish 12 (s.bitTest (s.memRead s.hl) b)

/-- `RES b,r` (R469). -/
def execResR (b : BitVec 3) (r : Reg8) (s : State) : Out := finish 8 (s.setR8 r (res8 (s.getR8 r) b))

/-- `RES b,(HL)` (R470). -/
def execResMemHl (b : BitVec 3) (s : State) : Out := finish 15 (s.resMem s.hl b)

/-- `SET b,r` (R465). -/
def execSetR (b : BitVec 3) (r : Reg8) (s : State) : Out := finish 8 (s.setR8 r (set8 (s.getR8 r) b))

/-- `SET b,(HL)` (R466). -/
def execSetMemHl (b : BitVec 3) (s : State) : Out := finish 15 (s.setMem s.hl b)

/-- `BIT b,(IX+d)` (R463). -/
def execBitMemIx (b : BitVec 3) (d : Byte) (s : State) : Out := finish 20 (s.bitTest (s.memRead (s.ixd d)) b)

/-- `BIT b,(IX+d) (z != 6)` (R473). -/
def execBitMemIxZ (b : BitVec 3) (d : Byte) (_r : Reg8) (s : State) : Out := finish 20 (s.bitTest (s.memRead (s.ixd d)) b)

/-- `RES b,(IX+d)` (R471). -/
def execResMemIx (b : BitVec 3) (d : Byte) (s : State) : Out := finish 23 (s.resMem (s.ixd d) b)

/-- `RES b,(IX+d),r` (R474). -/
def execResMemIxR (b : BitVec 3) (d : Byte) (r : Reg8) (s : State) : Out := finish 23 (s.resMemCopy (s.ixd d) b r)

/-- `SET b,(IX+d)` (R467). -/
def execSetMemIx (b : BitVec 3) (d : Byte) (s : State) : Out := finish 23 (s.setMem (s.ixd d) b)

/-- `SET b,(IX+d),r` (R474). -/
def execSetMemIxR (b : BitVec 3) (d : Byte) (r : Reg8) (s : State) : Out := finish 23 (s.setMemCopy (s.ixd d) b r)

/-- `BIT b,(IY+d)` (R464). -/
def execBitMemIy (b : BitVec 3) (d : Byte) (s : State) : Out := finish 20 (s.bitTest (s.memRead (s.iyd d)) b)

/-- `BIT b,(IY+d) (z != 6)` (R473). -/
def execBitMemIyZ (b : BitVec 3) (d : Byte) (_r : Reg8) (s : State) : Out := finish 20 (s.bitTest (s.memRead (s.iyd d)) b)

/-- `RES b,(IY+d)` (R472). -/
def execResMemIy (b : BitVec 3) (d : Byte) (s : State) : Out := finish 23 (s.resMem (s.iyd d) b)

/-- `RES b,(IY+d),r` (R474). -/
def execResMemIyR (b : BitVec 3) (d : Byte) (r : Reg8) (s : State) : Out := finish 23 (s.resMemCopy (s.iyd d) b r)

/-- `SET b,(IY+d)` (R468). -/
def execSetMemIy (b : BitVec 3) (d : Byte) (s : State) : Out := finish 23 (s.setMem (s.iyd d) b)

/-- `SET b,(IY+d),r` (R474). -/
def execSetMemIyR (b : BitVec 3) (d : Byte) (r : Reg8) (s : State) : Out := finish 23 (s.setMemCopy (s.iyd d) b r)

end Sys2Proof.Machine
end

