-- ==== Sys2Proof/Machine/Exchange.lean ====
section
/-! DEFINITION. The exchange, block transfer and block search group (42_exchange_block R280 to R295). One meaning per instruction: its effect, then its cost added once
(30_encoding R141). -/

namespace Sys2Proof.Machine

/-- `EXX`: BC, DE, HL with their shadows (42_exchange_block R282). -/
def State.swapPairs (s : State) : State :=
  let s1 := { s with cpu.bc' := s.bc, cpu.de' := s.de, cpu.hl' := s.hl }
  ((s1.setBc s.cpu.bc').setDe s.cpu.de').setHl s.cpu.hl'

/-- The two stores of `EX (SP),..`: the high byte at SP+1 first (42_exchange_block R284). -/
def State.replaceTop (s : State) (v : Word) : State :=
  (s.memWrite (s.cpu.sp + 1) (hiByte v)).memWrite s.cpu.sp (loByte v)

/-- One iteration of a block transfer, `k` the step of HL and DE (42_exchange_block R288, R290). -/
def State.blockLoad (s : State) (k : Word) : State :=
  let s1 := s.memWrite s.de (s.memRead s.hl)
  let s2 := ((s1.setHl (s.hl + k)).setDe (s.de + k)).setBc (s.bc - 1)
  s2.writeF (blockLoadFlags (s.bc - 1) s.cpu.f s.free)

/-- One iteration of a block search, `k` the step of HL (42_exchange_block R292, R294). -/
def State.blockCompare (s : State) (k : Word) : State :=
  let s1 := (s.setHl (s.hl + k)).setBc (s.bc - 1)
  s1.writeF (blockCompareFlags s.cpu.a (s.memRead s.hl) (s.bc - 1) s.cpu.f s.free)

/-- The repeat mechanism: PC back by the instruction's length and 21 cycles while it repeats, else 16 (42_exchange_block R287; 49_io
R527). -/
def repeatWhile (again : Bool) (s : State) : Out :=
  if again then finish 21 (s.setPc (s.cpu.pc - 2)) else finish 16 s

/-- `EX AF,AF'` (R281). -/
def execExAfAf (s : State) : Out := finish 4 { s with cpu.a := s.cpu.a', cpu.f := s.cpu.f', cpu.a' := s.cpu.a, cpu.f' := s.cpu.f }

/-- `EXX` (R282). -/
def execExx (s : State) : Out := finish 4 s.swapPairs

/-- `EX (SP),HL` (R284). -/
def execExMemSpHl (s : State) : Out := finish 19 ((s.replaceTop s.hl).setHl s.stackTop)

/-- `EX DE,HL` (R283). -/
def execExDeHl (s : State) : Out := finish 4 ((s.setDe s.hl).setHl s.de)

/-- `LDI` (R288). -/
def execLdi (s : State) : Out := finish 16 (s.blockLoad 1)

/-- `CPI` (R292). -/
def execCpi (s : State) : Out := finish 16 (s.blockCompare 1)

/-- `LDD` (R290). -/
def execLdd (s : State) : Out := finish 16 (s.blockLoad (-1))

/-- `CPD` (R294). -/
def execCpd (s : State) : Out := finish 16 (s.blockCompare (-1))

/-- `LDIR` (R289). -/
def execLdir (s : State) : Out := repeatWhile ((s.blockLoad 1).bc != 0) (s.blockLoad 1)

/-- `CPIR` (R293). -/
def execCpir (s : State) : Out := repeatWhile ((s.blockCompare 1).bc != 0 && s.cpu.a - s.memRead s.hl != 0) (s.blockCompare 1)

/-- `LDDR` (R291). -/
def execLddr (s : State) : Out := repeatWhile ((s.blockLoad (-1)).bc != 0) (s.blockLoad (-1))

/-- `CPDR` (R295). -/
def execCpdr (s : State) : Out := repeatWhile ((s.blockCompare (-1)).bc != 0 && s.cpu.a - s.memRead s.hl != 0) (s.blockCompare (-1))

/-- `EX (SP),IX` (R285). -/
def execExMemSpIx (s : State) : Out := finish 23 ((s.replaceTop s.cpu.ix).setIx s.stackTop)

/-- `EX (SP),IY` (R286). -/
def execExMemSpIy (s : State) : Out := finish 23 ((s.replaceTop s.cpu.iy).setIy s.stackTop)

end Sys2Proof.Machine
end

