-- ==== Sys2Proof/WellFormed.lean ====
section
/-! DEFINITION. Which instruction terms stand for an encoding: the constraints of opcode_table.json that the operand types do not
already express (30_encoding R159, R163; 40_load8 R222). Every other term is well formed by its type. -/

namespace Sys2Proof

/-- Whether a register of `LD p,p'` is a half of the index register. -/
def RegP.isHalf : RegP → Bool
  | .hi => true
  | .lo => true
  | _ => false

/-- The constraints of the table's rows: `NEG` mirrors have y in 1..7, `RETN` mirrors y in 2..7, `IM 0` mirrors y in 1, 4, 5, and
`LD p,p'` names at least one index half. -/
def Instr.wf : Instr → Bool
  | .negMirror y => y != 0
  | .retnMirror y => y != 0 && y != 1
  | .im0Mirror y => y == 1 || y == 4 || y == 5
  | .ldPPIx dst src => dst.isHalf || src.isHalf
  | .ldPPIy dst src => dst.isHalf || src.isHalf
  | _ => true

end Sys2Proof
end

