-- ==== Sys2Proof/Decode.lean ====
section
/-! DEFINITION. The decoder, written from the opcode map of 30_encoding (R143 to R160), one table per format (R140), total on every
byte; then the encoder, written from the encodings of the rules 40 to 49. `decodeWindow` reads an instruction from the four bytes
at PC; `decode` reads one from a byte list and rejects a list that ends inside an instruction by name. -/

namespace Sys2Proof

/-- `r8`: the register of a 3-bit field; 110 is not a register but the memory operand (30_encoding R145). -/
def reg8Of (f : BitVec 3) : Option Reg8 :=
  match f.toNat with
  | 0 => some .b
  | 1 => some .c
  | 2 => some .d
  | 3 => some .e
  | 4 => some .h
  | 5 => some .l
  | 6 => none
  | _ => some .a

/-- The 3-bit field of a register (30_encoding R145). -/
def reg8Code : Reg8 → BitVec 3
  | .b => 0
  | .c => 1
  | .d => 2
  | .e => 3
  | .h => 4
  | .l => 5
  | .a => 7

/-- The register field of `LD p,p'`: 4 and 5 are the index halves (40_load8 R222). Value 6 does not reach it. -/
def regPOf (f : BitVec 3) : RegP :=
  match f.toNat with
  | 0 => .b
  | 1 => .c
  | 2 => .d
  | 3 => .e
  | 4 => .hi
  | 5 => .lo
  | _ => .a

/-- The 3-bit field of a register of `LD p,p'` (40_load8 R222). -/
def regPCode : RegP → BitVec 3
  | .b => 0
  | .c => 1
  | .d => 2
  | .e => 3
  | .hi => 4
  | .lo => 5
  | .a => 7

/-- The 3-bit field of an index half: 100 the high half, 101 the low half (30_encoding R145, R150). -/
def halfCode : Half → BitVec 3
  | .hi => 4
  | .lo => 5

/-- The `dd`/`ss` field (30_encoding R146). -/
def pairOf (p : BitVec 2) : Pair :=
  match p.toNat with
  | 0 => .bc
  | 1 => .de
  | 2 => .hl
  | _ => .sp

/-- The 2-bit field of a `dd`/`ss` pair (30_encoding R146). -/
def pairCode : Pair → BitVec 2
  | .bc => 0
  | .de => 1
  | .hl => 2
  | .sp => 3

/-- The `qq` field (30_encoding R147). -/
def pairQOf (p : BitVec 2) : PairQ :=
  match p.toNat with
  | 0 => .bc
  | 1 => .de
  | 2 => .hl
  | _ => .af

/-- The 2-bit field of a `qq` pair (30_encoding R147). -/
def pairQCode : PairQ → BitVec 2
  | .bc => 0
  | .de => 1
  | .hl => 2
  | .af => 3

/-- The `pp`/`rr` field: 10 is the index register (30_encoding R146). -/
def pairIOf (p : BitVec 2) : PairI :=
  match p.toNat with
  | 0 => .bc
  | 1 => .de
  | 2 => .idx
  | _ => .sp

/-- The 2-bit field of a `pp`/`rr` pair (30_encoding R146). -/
def pairICode : PairI → BitVec 2
  | .bc => 0
  | .de => 1
  | .idx => 2
  | .sp => 3

/-- The condition field `cc` (30_encoding R148). -/
def condOf (y : BitVec 3) : Cond :=
  match y.toNat with
  | 0 => .nz
  | 1 => .z
  | 2 => .nc
  | 3 => .c
  | 4 => .po
  | 5 => .pe
  | 6 => .p
  | _ => .m

/-- The 3-bit field of a condition (30_encoding R148). -/
def condCode : Cond → BitVec 3
  | .nz => 0
  | .z => 1
  | .nc => 2
  | .c => 3
  | .po => 4
  | .pe => 5
  | .p => 6
  | .m => 7

/-- `10 ooo sss`: ALU operation `y` on a register (30_encoding R156). -/
def aluR (y : BitVec 3) (r : Reg8) : Instr :=
  match y.toNat with
  | 0 => .addAR r
  | 1 => .adcAR r
  | 2 => .subR r
  | 3 => .sbcAR r
  | 4 => .andR r
  | 5 => .xorR r
  | 6 => .orR r
  | _ => .cpR r

/-- `10 ooo 110`: ALU operation `y` on `(HL)` (30_encoding R156). -/
def aluMemHl (y : BitVec 3) : Instr :=
  match y.toNat with
  | 0 => .addAMemHl
  | 1 => .adcAMemHl
  | 2 => .subMemHl
  | 3 => .sbcAMemHl
  | 4 => .andMemHl
  | 5 => .xorMemHl
  | 6 => .orMemHl
  | _ => .cpMemHl

/-- `11 ooo 110`: ALU operation `y` on an immediate (30_encoding R157). -/
def aluN (y : BitVec 3) (n : Byte) : Instr :=
  match y.toNat with
  | 0 => .addAN n
  | 1 => .adcAN n
  | 2 => .subN n
  | 3 => .sbcAN n
  | 4 => .andN n
  | 5 => .xorN n
  | 6 => .orN n
  | _ => .cpN n

/-- CB `00 ooo rrr`: rotate or shift `y` on a register (30_encoding R158). -/
def rotR (y : BitVec 3) (r : Reg8) : Instr :=
  match y.toNat with
  | 0 => .rlcR r
  | 1 => .rrcR r
  | 2 => .rlR r
  | 3 => .rrR r
  | 4 => .slaR r
  | 5 => .sraR r
  | 6 => .sllR r
  | _ => .srlR r

/-- CB `00 ooo 110`: rotate or shift `y` on `(HL)` (30_encoding R158). -/
def rotMemHl (y : BitVec 3) : Instr :=
  match y.toNat with
  | 0 => .rlcMemHl
  | 1 => .rrcMemHl
  | 2 => .rlMemHl
  | 3 => .rrMemHl
  | 4 => .slaMemHl
  | 5 => .sraMemHl
  | 6 => .sllMemHl
  | _ => .srlMemHl

/-- The base table (30_encoding R154 to R157), `b1` and `b2` the bytes after the opcode. The four prefix bytes give their prefix
rows here; `decodeWindow` follows them. -/
def decodeBase (op b1 b2 : Byte) : Instr :=
  let y := fieldY op
  let p := fieldP op
  let q := fieldQ op
  let nn := wordOf b2 b1
  match (fieldX op).toNat with
  | 0 =>
    match (fieldZ op).toNat with
    | 0 =>
      match y.toNat with
      | 0 => .nop
      | 1 => .exAfAf
      | 2 => .djnz b1
      | 3 => .jr b1
      | 4 => .jrNz b1
      | 5 => .jrZ b1
      | 6 => .jrNc b1
      | _ => .jrC b1
    | 1 => if q == 1 then .addHlSs (pairOf p) else .ldDdNn (pairOf p) nn
    | 2 =>
      match y.toNat with
      | 0 => .ldMemBcA
      | 1 => .ldAMemBc
      | 2 => .ldMemDeA
      | 3 => .ldAMemDe
      | 4 => .ldMemNnHl nn
      | 5 => .ldHlMemNn nn
      | 6 => .ldMemNnA nn
      | _ => .ldAMemNn nn
    | 3 => if q == 1 then .decSs (pairOf p) else .incSs (pairOf p)
    | 4 =>
      match reg8Of y with
      | some r => .incR r
      | none => .incMemHl
    | 5 =>
      match reg8Of y with
      | some r => .decR r
      | none => .decMemHl
    | 6 =>
      match reg8Of y with
      | some r => .ldRN r b1
      | none => .ldMemHlN b1
    | _ =>
      match y.toNat with
      | 0 => .rlca
      | 1 => .rrca
      | 2 => .rla
      | 3 => .rra
      | 4 => .daa
      | 5 => .cpl
      | 6 => .scf
      | _ => .ccf
  | 1 =>
    match reg8Of y, reg8Of (fieldZ op) with
    | some dst, some src => .ldRR dst src
    | some r, none => .ldRMemHl r
    | none, some r => .ldMemHlR r
    | none, none => .halt
  | 2 =>
    match reg8Of (fieldZ op) with
    | some r => aluR y r
    | none => aluMemHl y
  | _ =>
    match (fieldZ op).toNat with
    | 0 => .retCc (condOf y)
    | 1 =>
      if q == 0 then .popQq (pairQOf p)
      else
        match p.toNat with
        | 0 => .ret
        | 1 => .exx
        | 2 => .jpHl
        | _ => .ldSpHl
    | 2 => .jpCcNn (condOf y) nn
    | 3 =>
      match y.toNat with
      | 0 => .jpNn nn
      | 1 => .prefixCb
      | 2 => .outNA b1
      | 3 => .inAN b1
      | 4 => .exMemSpHl
      | 5 => .exDeHl
      | 6 => .di
      | _ => .ei
    | 4 => .callCcNn (condOf y) nn
    | 5 =>
      if q == 0 then .pushQq (pairQOf p)
      else
        match p.toNat with
        | 0 => .callNn nn
        | 1 => .prefixDd
        | 2 => .prefixEd
        | _ => .prefixFd
    | 6 => aluN y b1
    | _ => .rst y

/-- The CB table (30_encoding R158). -/
def decodeCb (op : Byte) : Instr :=
  let y := fieldY op
  match (fieldX op).toNat, reg8Of (fieldZ op) with
  | 0, some r => rotR y r
  | 0, none => rotMemHl y
  | 1, some r => .bitR y r
  | 1, none => .bitMemHl y
  | 2, some r => .resR y r
  | 2, none => .resMemHl y
  | _, some r => .setR y r
  | _, none => .setMemHl y

/-- The ED table (30_encoding R159), `b2` and `b3` the bytes after the opcode. -/
def decodeEd (op b2 b3 : Byte) : Instr :=
  let y := fieldY op
  let z := fieldZ op
  let p := fieldP op
  let q := fieldQ op
  let nn := wordOf b3 b2
  match (fieldX op).toNat with
  | 0 => .nopEdX0 y z
  | 1 =>
    match z.toNat with
    | 0 =>
      match reg8Of y with
      | some r => .inRC r
      | none => .inC
    | 1 =>
      match reg8Of y with
      | some r => .outCR r
      | none => .outC0
    | 2 => if q == 1 then .adcHlSs (pairOf p) else .sbcHlSs (pairOf p)
    | 3 => if q == 1 then .ldDdMemNn (pairOf p) nn else .ldMemNnDd nn (pairOf p)
    | 4 => if y == 0 then .neg else .negMirror y
    | 5 =>
      match y.toNat with
      | 0 => .retn
      | 1 => .reti
      | _ => .retnMirror y
    | 6 =>
      match y.toNat with
      | 0 => .im0
      | 2 => .im1
      | 3 => .im2
      | 6 => .im1Mirror
      | 7 => .im2Mirror
      | _ => .im0Mirror y
    | _ =>
      match y.toNat with
      | 0 => .ldIA
      | 1 => .ldRA
      | 2 => .ldAI
      | 3 => .ldAR
      | 4 => .rrd
      | 5 => .rld
      | _ => .nopEd77 q
  | 2 =>
    if op.extractLsb' 5 1 == 0 then .nopEd80 (op.extractLsb' 4 1) q z
    else if op.extractLsb' 2 1 == 1 then .nopEdA4 (op.extractLsb' 4 1) q (op.extractLsb' 0 2)
    else
      match y.toNat, z.toNat with
      | 4, 0 => .ldi
      | 4, 1 => .cpi
      | 4, 2 => .ini
      | 4, _ => .outi
      | 5, 0 => .ldd
      | 5, 1 => .cpd
      | 5, 2 => .ind
      | 5, _ => .outd
      | 6, 0 => .ldir
      | 6, 1 => .cpir
      | 6, 2 => .inir
      | 6, _ => .otir
      | _, 0 => .lddr
      | _, 1 => .cpdr
      | _, 2 => .indr
      | _, _ => .otdr
  | _ => .nopEdX3 y z

/-- The DD row of `10 ooo 10z`, ALU operation `y` with an index half (43_alu8 R333). -/
def aluIxHalf (y : BitVec 3) (h : Half) : Instr :=
  match y.toNat with
  | 0 => .addAIxHalf h
  | 1 => .adcAIxHalf h
  | 2 => .subIxHalf h
  | 3 => .sbcAIxHalf h
  | 4 => .andIxHalf h
  | 5 => .xorIxHalf h
  | 6 => .orIxHalf h
  | _ => .cpIxHalf h

/-- The DD row of `10 ooo 110`, ALU operation `y` with `(IX+d)` (43_alu8 R321). -/
def aluMemIx (y : BitVec 3) (d : Byte) : Instr :=
  match y.toNat with
  | 0 => .addAMemIx d
  | 1 => .adcAMemIx d
  | 2 => .subMemIx d
  | 3 => .sbcAMemIx d
  | 4 => .andMemIx d
  | 5 => .xorMemIx d
  | 6 => .orMemIx d
  | _ => .cpMemIx d

/-- The DDCB row of `00 ooo 110`, rotate or shift `y` on `(IX+d)` (46_rotate_shift R425). -/
def rotMemIx (y : BitVec 3) (d : Byte) : Instr :=
  match y.toNat with
  | 0 => .rlcMemIx d
  | 1 => .rrcMemIx d
  | 2 => .rlMemIx d
  | 3 => .rrMemIx d
  | 4 => .slaMemIx d
  | 5 => .sraMemIx d
  | 6 => .sllMemIx d
  | _ => .srlMemIx d

/-- The DDCB row of `00 ooo rrr`, rotate or shift `y` on `(IX+d)` with register copy (46_rotate_shift R435). -/
def rotMemIxR (y : BitVec 3) (d : Byte) (r : Reg8) : Instr :=
  match y.toNat with
  | 0 => .rlcMemIxR d r
  | 1 => .rrcMemIxR d r
  | 2 => .rlMemIxR d r
  | 3 => .rrMemIxR d r
  | 4 => .slaMemIxR d r
  | 5 => .sraMemIxR d r
  | 6 => .sllMemIxR d r
  | _ => .srlMemIxR d r

/-- The DD table: the base table in index mode IX (30_encoding R149 to R151), `b2` and `b3` the bytes after the opcode.
An opcode outside `IDX_OPS` gives the NONI row (R152); 0xCB gives the row that leads to the DDCB table. -/
def decodeDd (op b2 b3 : Byte) : Instr :=
  let y := fieldY op
  let p := fieldP op
  let q := fieldQ op
  let nn := wordOf b3 b2
  match (fieldX op).toNat with
  | 0 =>
    match (fieldZ op).toNat with
    | 1 => if q == 1 then .addIxPp (pairIOf p) else if p == 2 then .ldIxNn nn else .noniDd
    | 2 => if y == 4 then .ldMemNnIx nn else if y == 5 then .ldIxMemNn nn else .noniDd
    | 3 => if p == 2 then (if q == 1 then .decIx else .incIx) else .noniDd
    | 4 =>
      match y.toNat with
      | 4 => .incIxHalf .hi
      | 5 => .incIxHalf .lo
      | 6 => .incMemIx b2
      | _ => .noniDd
    | 5 =>
      match y.toNat with
      | 4 => .decIxHalf .hi
      | 5 => .decIxHalf .lo
      | 6 => .decMemIx b2
      | _ => .noniDd
    | 6 =>
      match y.toNat with
      | 4 => .ldIxHalfN .hi b2
      | 5 => .ldIxHalfN .lo b2
      | 6 => .ldMemIxN b2 b3
      | _ => .noniDd
    | _ => .noniDd
  | 1 =>
    match reg8Of y, reg8Of (fieldZ op) with
    | some r, none => .ldRMemIx r b2
    | none, some r => .ldMemIxR b2 r
    | none, none => .noniDd
    | some _, some _ =>
      let dst := regPOf y
      let src := regPOf (fieldZ op)
      if dst.isHalf || src.isHalf then .ldPPIx dst src else .noniDd
  | 2 =>
    match (fieldZ op).toNat with
    | 4 => aluIxHalf y .hi
    | 5 => aluIxHalf y .lo
    | 6 => aluMemIx y b2
    | _ => .noniDd
  | _ =>
    if op == 0xCB then .prefixDdCb
    else if op == 0xE1 then .popIx
    else if op == 0xE3 then .exMemSpIx
    else if op == 0xE5 then .pushIx
    else if op == 0xE9 then .jpIx
    else if op == 0xF9 then .ldSpIx
    else .noniDd

/-- The DDCB table: `d` stands before the opcode byte (30_encoding R153). -/
def decodeDdCb (d op : Byte) : Instr :=
  let y := fieldY op
  match (fieldX op).toNat, reg8Of (fieldZ op) with
  | 0, none => rotMemIx y d
  | 0, some r => rotMemIxR y d r
  | 1, none => .bitMemIx y d
  | 1, some r => .bitMemIxZ y d r
  | 2, none => .resMemIx y d
  | 2, some r => .resMemIxR y d r
  | _, none => .setMemIx y d
  | _, some r => .setMemIxR y d r

/-- The FD row of `10 ooo 10z`, ALU operation `y` with an index half (43_alu8 R333). -/
def aluIyHalf (y : BitVec 3) (h : Half) : Instr :=
  match y.toNat with
  | 0 => .addAIyHalf h
  | 1 => .adcAIyHalf h
  | 2 => .subIyHalf h
  | 3 => .sbcAIyHalf h
  | 4 => .andIyHalf h
  | 5 => .xorIyHalf h
  | 6 => .orIyHalf h
  | _ => .cpIyHalf h

/-- The FD row of `10 ooo 110`, ALU operation `y` with `(IY+d)` (43_alu8 R321). -/
def aluMemIy (y : BitVec 3) (d : Byte) : Instr :=
  match y.toNat with
  | 0 => .addAMemIy d
  | 1 => .adcAMemIy d
  | 2 => .subMemIy d
  | 3 => .sbcAMemIy d
  | 4 => .andMemIy d
  | 5 => .xorMemIy d
  | 6 => .orMemIy d
  | _ => .cpMemIy d

/-- The FDCB row of `00 ooo 110`, rotate or shift `y` on `(IY+d)` (46_rotate_shift R425). -/
def rotMemIy (y : BitVec 3) (d : Byte) : Instr :=
  match y.toNat with
  | 0 => .rlcMemIy d
  | 1 => .rrcMemIy d
  | 2 => .rlMemIy d
  | 3 => .rrMemIy d
  | 4 => .slaMemIy d
  | 5 => .sraMemIy d
  | 6 => .sllMemIy d
  | _ => .srlMemIy d

/-- The FDCB row of `00 ooo rrr`, rotate or shift `y` on `(IY+d)` with register copy (46_rotate_shift R435). -/
def rotMemIyR (y : BitVec 3) (d : Byte) (r : Reg8) : Instr :=
  match y.toNat with
  | 0 => .rlcMemIyR d r
  | 1 => .rrcMemIyR d r
  | 2 => .rlMemIyR d r
  | 3 => .rrMemIyR d r
  | 4 => .slaMemIyR d r
  | 5 => .sraMemIyR d r
  | 6 => .sllMemIyR d r
  | _ => .srlMemIyR d r

/-- The FD table: the base table in index mode IY (30_encoding R149 to R151), `b2` and `b3` the bytes after the opcode.
An opcode outside `IDX_OPS` gives the NONI row (R152); 0xCB gives the row that leads to the FDCB table. -/
def decodeFd (op b2 b3 : Byte) : Instr :=
  let y := fieldY op
  let p := fieldP op
  let q := fieldQ op
  let nn := wordOf b3 b2
  match (fieldX op).toNat with
  | 0 =>
    match (fieldZ op).toNat with
    | 1 => if q == 1 then .addIyRr (pairIOf p) else if p == 2 then .ldIyNn nn else .noniFd
    | 2 => if y == 4 then .ldMemNnIy nn else if y == 5 then .ldIyMemNn nn else .noniFd
    | 3 => if p == 2 then (if q == 1 then .decIy else .incIy) else .noniFd
    | 4 =>
      match y.toNat with
      | 4 => .incIyHalf .hi
      | 5 => .incIyHalf .lo
      | 6 => .incMemIy b2
      | _ => .noniFd
    | 5 =>
      match y.toNat with
      | 4 => .decIyHalf .hi
      | 5 => .decIyHalf .lo
      | 6 => .decMemIy b2
      | _ => .noniFd
    | 6 =>
      match y.toNat with
      | 4 => .ldIyHalfN .hi b2
      | 5 => .ldIyHalfN .lo b2
      | 6 => .ldMemIyN b2 b3
      | _ => .noniFd
    | _ => .noniFd
  | 1 =>
    match reg8Of y, reg8Of (fieldZ op) with
    | some r, none => .ldRMemIy r b2
    | none, some r => .ldMemIyR b2 r
    | none, none => .noniFd
    | some _, some _ =>
      let dst := regPOf y
      let src := regPOf (fieldZ op)
      if dst.isHalf || src.isHalf then .ldPPIy dst src else .noniFd
  | 2 =>
    match (fieldZ op).toNat with
    | 4 => aluIyHalf y .hi
    | 5 => aluIyHalf y .lo
    | 6 => aluMemIy y b2
    | _ => .noniFd
  | _ =>
    if op == 0xCB then .prefixFdCb
    else if op == 0xE1 then .popIy
    else if op == 0xE3 then .exMemSpIy
    else if op == 0xE5 then .pushIy
    else if op == 0xE9 then .jpIy
    else if op == 0xF9 then .ldSpIy
    else .noniFd

/-- The FDCB table: `d` stands before the opcode byte (30_encoding R153). -/
def decodeFdCb (d op : Byte) : Instr :=
  let y := fieldY op
  match (fieldX op).toNat, reg8Of (fieldZ op) with
  | 0, none => rotMemIy y d
  | 0, some r => rotMemIyR y d r
  | 1, none => .bitMemIy y d
  | 1, some r => .bitMemIyZ y d r
  | 2, none => .resMemIy y d
  | 2, some r => .resMemIyR y d r
  | _, none => .setMemIy y d
  | _, some r => .setMemIyR y d r

/-- The instruction in the four bytes at PC (30_encoding R141): the first byte selects the table, and the second when the first is DD
or FD. Total: every four bytes give an instruction (R161). -/
def decodeWindow (b0 b1 b2 b3 : Byte) : Instr :=
  if b0 == 0xCB then decodeCb b1
  else if b0 == 0xED then decodeEd b1 b2 b3
  else if b0 == 0xDD then (if b1 == 0xCB then decodeDdCb b2 b3 else decodeDd b1 b2 b3)
  else if b0 == 0xFD then (if b1 == 0xCB then decodeFdCb b2 b3 else decodeFd b1 b2 b3)
  else decodeBase b0 b1 b2

/-- The number of operand bytes the base entry of `op` asks for: `n` or `e` one, `nn` two (30_encoding R144, R154 to R157). -/
def baseOperands (op : Byte) : Nat :=
  let y := (fieldY op).toNat
  match (fieldX op).toNat, (fieldZ op).toNat with
  | 0, 0 => if y < 2 then 0 else 1
  | 0, 1 => if fieldQ op == 0 then 2 else 0
  | 0, 2 => if y < 4 then 0 else 2
  | 0, 6 => 1
  | 3, 2 => 2
  | 3, 3 => if y = 0 then 2 else if y = 2 ∨ y = 3 then 1 else 0
  | 3, 4 => 2
  | 3, 5 => if op == 0xCD then 2 else 0
  | 3, 6 => 1
  | _, _ => 0

/-- Whether the base entry of `op` has a memory operand `(HL)`, which index mode turns into `(idx+d)` (30_encoding R149 (b)). -/
def hasMemHl (op : Byte) : Bool :=
  let y := (fieldY op).toNat
  let z := (fieldZ op).toNat
  match (fieldX op).toNat with
  | 0 => y == 6 && (z == 4 || z == 5 || z == 6)
  | 1 => (y == 6) ^^ (z == 6)
  | 2 => z == 6
  | _ => false

/-- Whether `op` is in `IDX_OPS`: a DD or FD prefix forms one instruction with it (30_encoding R151, R152). -/
def inIdxOps (op : Byte) : Bool := decodeDd op 0 0 != .noniDd

/-- The length of the instruction that begins with `b0`, `b1` (30_encoding R142). -/
def windowLength (b0 b1 : Byte) : Nat :=
  if b0 == 0xCB then 2
  else if b0 == 0xED then (if fieldX b1 == 1 && fieldZ b1 == 3 then 4 else 2)
  else if b0 == 0xDD || b0 == 0xFD then
    (if b1 == 0xCB then 4
     else if inIdxOps b1 then 2 + baseOperands b1 + (if hasMemHl b1 then 1 else 0)
     else 1)
  else 1 + baseOperands b0

/-- How many opcode fetches (M1 cycles) the instruction that begins with `b0`, `b1` makes: two for a CB, ED, DD or FD prefix (DD CB
and FD CB included), one for an unprefixed instruction and for a NONI (10_state R30; 30_encoding R141). -/
def windowM1 (b0 b1 : Byte) : Nat :=
  if b0 == 0xCB || b0 == 0xED then 2
  else if b0 == 0xDD || b0 == 0xFD then (if inIdxOps b1 then 2 else 1)
  else 1

/-- Why a byte list holds no instruction. The machine never meets either: its fetch always reads four bytes. -/
inductive DecodeError where
  /-- the list is empty -/
  | empty
  /-- the list ends inside an instruction of `need` bytes of which it holds only `got` -/
  | truncated (need got : Nat)
  deriving DecidableEq, Repr

/-- The prefix row a byte list consists of, when it is exactly the bytes of one (opcode_table.json's six prefix rows). -/
def lonePrefix : List Byte → Option Instr
  | [b0] => if b0 == 0xCB || b0 == 0xDD || b0 == 0xED || b0 == 0xFD then some (decodeBase b0 0 0) else none
  | [b0, b1] =>
    if b1 == 0xCB && b0 == 0xDD then some (decodeDd b1 0 0)
    else if b1 == 0xCB && b0 == 0xFD then some (decodeFd b1 0 0)
    else none
  | _ => none

/-- The instruction at the head of a byte list and the bytes after it, or why there is none. -/
def decode (bs : List Byte) : Except DecodeError (Instr × List Byte) :=
  match lonePrefix bs with
  | some i => .ok (i, [])
  | none =>
    match bs with
    | [] => .error .empty
    | b0 :: _ =>
      let b1 := bs.getD 1 0
      let need := windowLength b0 b1
      if bs.length < need then .error (.truncated need bs.length)
      else .ok (decodeWindow b0 b1 (bs.getD 2 0) (bs.getD 3 0), bs.drop need)

/-- The bytes of an instruction in fetch order, written from the encodings of the rules 40 to 49 and of opcode_table.json (30_encoding R140). -/
def encode : Instr → List Byte
  | .nop => [0x00]
  | .exAfAf => [0x08]
  | .djnz e => [0x10, e]
  | .jr e => [0x18, e]
  | .jrNz e => [0x20, e]
  | .jrZ e => [0x28, e]
  | .jrNc e => [0x30, e]
  | .jrC e => [0x38, e]
  | .ldDdNn dd nn => [opXPQZ 0 (pairCode dd) 0 1, loByte nn, hiByte nn]
  | .addHlSs ss => [opXPQZ 0 (pairCode ss) 1 1]
  | .ldMemBcA => [0x02]
  | .ldAMemBc => [0x0A]
  | .ldMemDeA => [0x12]
  | .ldAMemDe => [0x1A]
  | .ldMemNnHl nn => [0x22, loByte nn, hiByte nn]
  | .ldHlMemNn nn => [0x2A, loByte nn, hiByte nn]
  | .ldMemNnA nn => [0x32, loByte nn, hiByte nn]
  | .ldAMemNn nn => [0x3A, loByte nn, hiByte nn]
  | .incSs ss => [opXPQZ 0 (pairCode ss) 0 3]
  | .decSs ss => [opXPQZ 0 (pairCode ss) 1 3]
  | .incR r => [opXYZ 0 (reg8Code r) 4]
  | .incMemHl => [0x34]
  | .decR r => [opXYZ 0 (reg8Code r) 5]
  | .decMemHl => [0x35]
  | .ldRN r n => [opXYZ 0 (reg8Code r) 6, n]
  | .ldMemHlN n => [0x36, n]
  | .rlca => [0x07]
  | .rrca => [0x0F]
  | .rla => [0x17]
  | .rra => [0x1F]
  | .daa => [0x27]
  | .cpl => [0x2F]
  | .scf => [0x37]
  | .ccf => [0x3F]
  | .ldRR dst src => [opXYZ 1 (reg8Code dst) (reg8Code src)]
  | .ldRMemHl r => [opXYZ 1 (reg8Code r) 6]
  | .ldMemHlR r => [opXYZ 1 6 (reg8Code r)]
  | .halt => [0x76]
  | .addAR r => [opXYZ 2 0 (reg8Code r)]
  | .addAMemHl => [0x86]
  | .addAN n => [0xC6, n]
  | .adcAR r => [opXYZ 2 1 (reg8Code r)]
  | .adcAMemHl => [0x8E]
  | .adcAN n => [0xCE, n]
  | .subR r => [opXYZ 2 2 (reg8Code r)]
  | .subMemHl => [0x96]
  | .subN n => [0xD6, n]
  | .sbcAR r => [opXYZ 2 3 (reg8Code r)]
  | .sbcAMemHl => [0x9E]
  | .sbcAN n => [0xDE, n]
  | .andR r => [opXYZ 2 4 (reg8Code r)]
  | .andMemHl => [0xA6]
  | .andN n => [0xE6, n]
  | .xorR r => [opXYZ 2 5 (reg8Code r)]
  | .xorMemHl => [0xAE]
  | .xorN n => [0xEE, n]
  | .orR r => [opXYZ 2 6 (reg8Code r)]
  | .orMemHl => [0xB6]
  | .orN n => [0xF6, n]
  | .cpR r => [opXYZ 2 7 (reg8Code r)]
  | .cpMemHl => [0xBE]
  | .cpN n => [0xFE, n]
  | .retCc cc => [opXYZ 3 (condCode cc) 0]
  | .popQq qq => [opXPQZ 3 (pairQCode qq) 0 1]
  | .ret => [0xC9]
  | .exx => [0xD9]
  | .jpHl => [0xE9]
  | .ldSpHl => [0xF9]
  | .jpCcNn cc nn => [opXYZ 3 (condCode cc) 2, loByte nn, hiByte nn]
  | .jpNn nn => [0xC3, loByte nn, hiByte nn]
  | .prefixCb => [0xCB]
  | .outNA n => [0xD3, n]
  | .inAN n => [0xDB, n]
  | .exMemSpHl => [0xE3]
  | .exDeHl => [0xEB]
  | .di => [0xF3]
  | .ei => [0xFB]
  | .callCcNn cc nn => [opXYZ 3 (condCode cc) 4, loByte nn, hiByte nn]
  | .pushQq qq => [opXPQZ 3 (pairQCode qq) 0 5]
  | .callNn nn => [0xCD, loByte nn, hiByte nn]
  | .prefixDd => [0xDD]
  | .prefixEd => [0xED]
  | .prefixFd => [0xFD]
  | .rst y => [opXYZ 3 y 7]
  | .rlcR r => [0xCB, opXYZ 0 0 (reg8Code r)]
  | .rlcMemHl => [0xCB, 0x06]
  | .rrcR r => [0xCB, opXYZ 0 1 (reg8Code r)]
  | .rrcMemHl => [0xCB, 0x0E]
  | .rlR r => [0xCB, opXYZ 0 2 (reg8Code r)]
  | .rlMemHl => [0xCB, 0x16]
  | .rrR r => [0xCB, opXYZ 0 3 (reg8Code r)]
  | .rrMemHl => [0xCB, 0x1E]
  | .slaR r => [0xCB, opXYZ 0 4 (reg8Code r)]
  | .slaMemHl => [0xCB, 0x26]
  | .sraR r => [0xCB, opXYZ 0 5 (reg8Code r)]
  | .sraMemHl => [0xCB, 0x2E]
  | .sllR r => [0xCB, opXYZ 0 6 (reg8Code r)]
  | .sllMemHl => [0xCB, 0x36]
  | .srlR r => [0xCB, opXYZ 0 7 (reg8Code r)]
  | .srlMemHl => [0xCB, 0x3E]
  | .bitR b r => [0xCB, opXYZ 1 b (reg8Code r)]
  | .bitMemHl b => [0xCB, opXYZ 1 b 6]
  | .resR b r => [0xCB, opXYZ 2 b (reg8Code r)]
  | .resMemHl b => [0xCB, opXYZ 2 b 6]
  | .setR b r => [0xCB, opXYZ 3 b (reg8Code r)]
  | .setMemHl b => [0xCB, opXYZ 3 b 6]
  | .inRC r => [0xED, opXYZ 1 (reg8Code r) 0]
  | .inC => [0xED, 0x70]
  | .outCR r => [0xED, opXYZ 1 (reg8Code r) 1]
  | .outC0 => [0xED, 0x71]
  | .sbcHlSs ss => [0xED, opXPQZ 1 (pairCode ss) 0 2]
  | .adcHlSs ss => [0xED, opXPQZ 1 (pairCode ss) 1 2]
  | .ldMemNnDd nn dd => [0xED, opXPQZ 1 (pairCode dd) 0 3, loByte nn, hiByte nn]
  | .ldDdMemNn dd nn => [0xED, opXPQZ 1 (pairCode dd) 1 3, loByte nn, hiByte nn]
  | .neg => [0xED, 0x44]
  | .negMirror y => [0xED, opXYZ 1 y 4]
  | .retn => [0xED, 0x45]
  | .reti => [0xED, 0x4D]
  | .retnMirror y => [0xED, opXYZ 1 y 5]
  | .im0 => [0xED, 0x46]
  | .im1 => [0xED, 0x56]
  | .im2 => [0xED, 0x5E]
  | .im0Mirror y => [0xED, opXYZ 1 y 6]
  | .im1Mirror => [0xED, 0x76]
  | .im2Mirror => [0xED, 0x7E]
  | .ldIA => [0xED, 0x47]
  | .ldRA => [0xED, 0x4F]
  | .ldAI => [0xED, 0x57]
  | .ldAR => [0xED, 0x5F]
  | .rrd => [0xED, 0x67]
  | .rld => [0xED, 0x6F]
  | .ldi => [0xED, 0xA0]
  | .cpi => [0xED, 0xA1]
  | .ini => [0xED, 0xA2]
  | .outi => [0xED, 0xA3]
  | .ldd => [0xED, 0xA8]
  | .cpd => [0xED, 0xA9]
  | .ind => [0xED, 0xAA]
  | .outd => [0xED, 0xAB]
  | .ldir => [0xED, 0xB0]
  | .cpir => [0xED, 0xB1]
  | .inir => [0xED, 0xB2]
  | .otir => [0xED, 0xB3]
  | .lddr => [0xED, 0xB8]
  | .cpdr => [0xED, 0xB9]
  | .indr => [0xED, 0xBA]
  | .otdr => [0xED, 0xBB]
  | .nopEdX0 y z => [0xED, opXYZ 0 y z]
  | .nopEd77 q => [0xED, opXPQZ 1 3 q 7]
  | .nopEd80 p q z => [0xED, opXPQZ 2 ((0 : BitVec 1) ++ p) q z]
  | .nopEdA4 p q z => [0xED, opXPQZ 2 ((1 : BitVec 1) ++ p) q ((1 : BitVec 1) ++ z)]
  | .nopEdX3 y z => [0xED, opXYZ 3 y z]
  | .addIxPp p => [0xDD, opXPQZ 0 (pairICode p) 1 1]
  | .ldIxNn nn => [0xDD, 0x21, loByte nn, hiByte nn]
  | .ldMemNnIx nn => [0xDD, 0x22, loByte nn, hiByte nn]
  | .incIx => [0xDD, 0x23]
  | .ldIxMemNn nn => [0xDD, 0x2A, loByte nn, hiByte nn]
  | .decIx => [0xDD, 0x2B]
  | .incIxHalf h => [0xDD, opXYZ 0 (halfCode h) 4]
  | .decIxHalf h => [0xDD, opXYZ 0 (halfCode h) 5]
  | .ldIxHalfN h n => [0xDD, opXYZ 0 (halfCode h) 6, n]
  | .incMemIx d => [0xDD, 0x34, d]
  | .decMemIx d => [0xDD, 0x35, d]
  | .ldMemIxN d n => [0xDD, 0x36, d, n]
  | .ldRMemIx r d => [0xDD, opXYZ 1 (reg8Code r) 6, d]
  | .ldMemIxR d r => [0xDD, opXYZ 1 6 (reg8Code r), d]
  | .ldPPIx dst src => [0xDD, opXYZ 1 (regPCode dst) (regPCode src)]
  | .addAIxHalf h => [0xDD, opXYZ 2 0 (halfCode h)]
  | .addAMemIx d => [0xDD, 0x86, d]
  | .adcAIxHalf h => [0xDD, opXYZ 2 1 (halfCode h)]
  | .adcAMemIx d => [0xDD, 0x8E, d]
  | .subIxHalf h => [0xDD, opXYZ 2 2 (halfCode h)]
  | .subMemIx d => [0xDD, 0x96, d]
  | .sbcAIxHalf h => [0xDD, opXYZ 2 3 (halfCode h)]
  | .sbcAMemIx d => [0xDD, 0x9E, d]
  | .andIxHalf h => [0xDD, opXYZ 2 4 (halfCode h)]
  | .andMemIx d => [0xDD, 0xA6, d]
  | .xorIxHalf h => [0xDD, opXYZ 2 5 (halfCode h)]
  | .xorMemIx d => [0xDD, 0xAE, d]
  | .orIxHalf h => [0xDD, opXYZ 2 6 (halfCode h)]
  | .orMemIx d => [0xDD, 0xB6, d]
  | .cpIxHalf h => [0xDD, opXYZ 2 7 (halfCode h)]
  | .cpMemIx d => [0xDD, 0xBE, d]
  | .prefixDdCb => [0xDD, 0xCB]
  | .popIx => [0xDD, 0xE1]
  | .exMemSpIx => [0xDD, 0xE3]
  | .pushIx => [0xDD, 0xE5]
  | .jpIx => [0xDD, 0xE9]
  | .ldSpIx => [0xDD, 0xF9]
  | .noniDd => [0xDD]
  | .rlcMemIx d => [0xDD, 0xCB, d, 0x06]
  | .rlcMemIxR d r => [0xDD, 0xCB, d, opXYZ 0 0 (reg8Code r)]
  | .rrcMemIx d => [0xDD, 0xCB, d, 0x0E]
  | .rrcMemIxR d r => [0xDD, 0xCB, d, opXYZ 0 1 (reg8Code r)]
  | .rlMemIx d => [0xDD, 0xCB, d, 0x16]
  | .rlMemIxR d r => [0xDD, 0xCB, d, opXYZ 0 2 (reg8Code r)]
  | .rrMemIx d => [0xDD, 0xCB, d, 0x1E]
  | .rrMemIxR d r => [0xDD, 0xCB, d, opXYZ 0 3 (reg8Code r)]
  | .slaMemIx d => [0xDD, 0xCB, d, 0x26]
  | .slaMemIxR d r => [0xDD, 0xCB, d, opXYZ 0 4 (reg8Code r)]
  | .sraMemIx d => [0xDD, 0xCB, d, 0x2E]
  | .sraMemIxR d r => [0xDD, 0xCB, d, opXYZ 0 5 (reg8Code r)]
  | .sllMemIx d => [0xDD, 0xCB, d, 0x36]
  | .sllMemIxR d r => [0xDD, 0xCB, d, opXYZ 0 6 (reg8Code r)]
  | .srlMemIx d => [0xDD, 0xCB, d, 0x3E]
  | .srlMemIxR d r => [0xDD, 0xCB, d, opXYZ 0 7 (reg8Code r)]
  | .bitMemIx b d => [0xDD, 0xCB, d, opXYZ 1 b 6]
  | .bitMemIxZ b d r => [0xDD, 0xCB, d, opXYZ 1 b (reg8Code r)]
  | .resMemIx b d => [0xDD, 0xCB, d, opXYZ 2 b 6]
  | .resMemIxR b d r => [0xDD, 0xCB, d, opXYZ 2 b (reg8Code r)]
  | .setMemIx b d => [0xDD, 0xCB, d, opXYZ 3 b 6]
  | .setMemIxR b d r => [0xDD, 0xCB, d, opXYZ 3 b (reg8Code r)]
  | .addIyRr p => [0xFD, opXPQZ 0 (pairICode p) 1 1]
  | .ldIyNn nn => [0xFD, 0x21, loByte nn, hiByte nn]
  | .ldMemNnIy nn => [0xFD, 0x22, loByte nn, hiByte nn]
  | .incIy => [0xFD, 0x23]
  | .ldIyMemNn nn => [0xFD, 0x2A, loByte nn, hiByte nn]
  | .decIy => [0xFD, 0x2B]
  | .incIyHalf h => [0xFD, opXYZ 0 (halfCode h) 4]
  | .decIyHalf h => [0xFD, opXYZ 0 (halfCode h) 5]
  | .ldIyHalfN h n => [0xFD, opXYZ 0 (halfCode h) 6, n]
  | .incMemIy d => [0xFD, 0x34, d]
  | .decMemIy d => [0xFD, 0x35, d]
  | .ldMemIyN d n => [0xFD, 0x36, d, n]
  | .ldRMemIy r d => [0xFD, opXYZ 1 (reg8Code r) 6, d]
  | .ldMemIyR d r => [0xFD, opXYZ 1 6 (reg8Code r), d]
  | .ldPPIy dst src => [0xFD, opXYZ 1 (regPCode dst) (regPCode src)]
  | .addAIyHalf h => [0xFD, opXYZ 2 0 (halfCode h)]
  | .addAMemIy d => [0xFD, 0x86, d]
  | .adcAIyHalf h => [0xFD, opXYZ 2 1 (halfCode h)]
  | .adcAMemIy d => [0xFD, 0x8E, d]
  | .subIyHalf h => [0xFD, opXYZ 2 2 (halfCode h)]
  | .subMemIy d => [0xFD, 0x96, d]
  | .sbcAIyHalf h => [0xFD, opXYZ 2 3 (halfCode h)]
  | .sbcAMemIy d => [0xFD, 0x9E, d]
  | .andIyHalf h => [0xFD, opXYZ 2 4 (halfCode h)]
  | .andMemIy d => [0xFD, 0xA6, d]
  | .xorIyHalf h => [0xFD, opXYZ 2 5 (halfCode h)]
  | .xorMemIy d => [0xFD, 0xAE, d]
  | .orIyHalf h => [0xFD, opXYZ 2 6 (halfCode h)]
  | .orMemIy d => [0xFD, 0xB6, d]
  | .cpIyHalf h => [0xFD, opXYZ 2 7 (halfCode h)]
  | .cpMemIy d => [0xFD, 0xBE, d]
  | .prefixFdCb => [0xFD, 0xCB]
  | .popIy => [0xFD, 0xE1]
  | .exMemSpIy => [0xFD, 0xE3]
  | .pushIy => [0xFD, 0xE5]
  | .jpIy => [0xFD, 0xE9]
  | .ldSpIy => [0xFD, 0xF9]
  | .noniFd => [0xFD]
  | .rlcMemIy d => [0xFD, 0xCB, d, 0x06]
  | .rlcMemIyR d r => [0xFD, 0xCB, d, opXYZ 0 0 (reg8Code r)]
  | .rrcMemIy d => [0xFD, 0xCB, d, 0x0E]
  | .rrcMemIyR d r => [0xFD, 0xCB, d, opXYZ 0 1 (reg8Code r)]
  | .rlMemIy d => [0xFD, 0xCB, d, 0x16]
  | .rlMemIyR d r => [0xFD, 0xCB, d, opXYZ 0 2 (reg8Code r)]
  | .rrMemIy d => [0xFD, 0xCB, d, 0x1E]
  | .rrMemIyR d r => [0xFD, 0xCB, d, opXYZ 0 3 (reg8Code r)]
  | .slaMemIy d => [0xFD, 0xCB, d, 0x26]
  | .slaMemIyR d r => [0xFD, 0xCB, d, opXYZ 0 4 (reg8Code r)]
  | .sraMemIy d => [0xFD, 0xCB, d, 0x2E]
  | .sraMemIyR d r => [0xFD, 0xCB, d, opXYZ 0 5 (reg8Code r)]
  | .sllMemIy d => [0xFD, 0xCB, d, 0x36]
  | .sllMemIyR d r => [0xFD, 0xCB, d, opXYZ 0 6 (reg8Code r)]
  | .srlMemIy d => [0xFD, 0xCB, d, 0x3E]
  | .srlMemIyR d r => [0xFD, 0xCB, d, opXYZ 0 7 (reg8Code r)]
  | .bitMemIy b d => [0xFD, 0xCB, d, opXYZ 1 b 6]
  | .bitMemIyZ b d r => [0xFD, 0xCB, d, opXYZ 1 b (reg8Code r)]
  | .resMemIy b d => [0xFD, 0xCB, d, opXYZ 2 b 6]
  | .resMemIyR b d r => [0xFD, 0xCB, d, opXYZ 2 b (reg8Code r)]
  | .setMemIy b d => [0xFD, 0xCB, d, opXYZ 3 b 6]
  | .setMemIyR b d r => [0xFD, 0xCB, d, opXYZ 3 b (reg8Code r)]

/-- Byte `k` of an instruction word numbered as opcode_table.json numbers its bits: byte `k` holds bits `8k+7` to `8k`, and every
bit from `nbits` up is 0. -/
def tableByte (nbits w k : Nat) : Byte := BitVec.ofNat 8 ((w % 2 ^ nbits) / 2 ^ (8 * k))

/-- What the decoder reads from an instruction whose bits are `w` in the table's numbering: the bytes are laid out in memory order,
the first at the lowest address, with zeros above `nbits` up to the longest instruction. -/
def decodeTableWord (nbits w : Nat) : Option Instr :=
  match decode [tableByte nbits w 0, tableByte nbits w 1, tableByte nbits w 2, tableByte nbits w 3] with
  | .ok (i, _) => some i
  | .error _ => none

end Sys2Proof
end

