-- ==== Sys2Proof/Machine/Fetch.lean ====
section
/-! DEFINITION. Fetching an instruction's bytes (30_encoding R141; 00_scope R9 `Fetch8`). Mapper reads change no state (20_memory R89),
so the four bytes at PC may be read first and only the instruction's own be counted as fetched (log 14). -/

namespace Sys2Proof.Machine

/-- The byte `k` places after PC, the address modulo 65536 (10_state R25). -/
def State.codeByte (s : State) (k : Nat) : Byte := s.memRead (s.cpu.pc + BitVec.ofNat 16 k)

/-- The instruction at PC (30_encoding R141). -/
def State.fetched (s : State) : Instr := decodeWindow (s.codeByte 0) (s.codeByte 1) (s.codeByte 2) (s.codeByte 3)

/-- The number of bytes of the instruction at PC (30_encoding R142). -/
def State.fetchedLength (s : State) : Nat := windowLength (s.codeByte 0) (s.codeByte 1)

/-- The state in which the operation runs: PC past the instruction, `R[6:0]` up by its M1 cycles (10_state R25, R30). -/
def State.afterFetch (s : State) : State :=
  (s.advancePc s.fetchedLength).bumpR (windowM1 (s.codeByte 0) (s.codeByte 1))

/-- A byte put `k` places after PC, straight into the physical page a read there resolves to, whether or not the slot is writable: how
a program is loaded from outside the machine (log 10). -/
def State.placeByte (s : State) (k : Nat) (v : Byte) : State :=
  let t := s.mapper.resolve (s.cpu.pc + BitVec.ofNat 16 k)
  { s with mapper := s.mapper.setPageByte t.1 t.2 v }

end Sys2Proof.Machine
end

