-- ==== Sys2Proof/Machine/General.lean ====
section
/-! DEFINITION. The general-purpose arithmetic and CPU control group, the ED no-operations and the NONI rows (44_general_control R359 to R376;
30_encoding R152). One meaning per instruction: its effect, then its cost added once
(30_encoding R141). -/

namespace Sys2Proof.Machine

/-- `NOP` (R365). -/
def execNop (s : State) : Out := finish 4 s

/-- `DAA` (R360). -/
def execDaa (s : State) : Out := finish 4 (s.setAF (daa8 s.cpu.a s.cpu.f s.free))

/-- `CPL` (R361). -/
def execCpl (s : State) : Out := finish 4 (s.setAF (s.cpu.a ^^^ 0xFF, cplFlags s.cpu.f s.free))

/-- `SCF` (R364). -/
def execScf (s : State) : Out := finish 4 (s.writeF (scfFlags s.cpu.f s.free))

/-- `CCF` (R363). -/
def execCcf (s : State) : Out := finish 4 (s.writeF (ccfFlags s.cpu.f s.free))

/-- `HALT` (R366). -/
def execHalt (s : State) : Out := finish 4 { s with cpu.halted := true }

/-- `DI` (R367). -/
def execDi (s : State) : Out := finish 4 { s with cpu.iff1 := false, cpu.iff2 := false }

/-- `EI` (R368). -/
def execEi (s : State) : Out := finish 4 { s with cpu.iff1 := true, cpu.iff2 := true, cpu.intInhibit := true }

/-- `NEG` (R362). -/
def execNeg (s : State) : Out := finish 8 (s.setAF (sub8 0 s.cpu.a false s.free))

/-- `NEG (mirror)` (R372). -/
def execNegMirror (_y : BitVec 3) (s : State) : Out := finish 8 (s.setAF (sub8 0 s.cpu.a false s.free))

/-- `IM 0` (R369). -/
def execIm0 (s : State) : Out := finish 8 { s with cpu.im := .im0 }

/-- `IM 1` (R370). -/
def execIm1 (s : State) : Out := finish 8 { s with cpu.im := .im1 }

/-- `IM 2` (R371). -/
def execIm2 (s : State) : Out := finish 8 { s with cpu.im := .im2 }

/-- `IM 0 (mirror)` (R373). -/
def execIm0Mirror (_y : BitVec 3) (s : State) : Out := finish 8 { s with cpu.im := .im0 }

/-- `IM 1 (mirror)` (R373). -/
def execIm1Mirror (s : State) : Out := finish 8 { s with cpu.im := .im1 }

/-- `IM 2 (mirror)` (R373). -/
def execIm2Mirror (s : State) : Out := finish 8 { s with cpu.im := .im2 }

/-- `NOP (ED, x=0)` (R376). -/
def execNopEdX0 (_y : BitVec 3) (_z : BitVec 3) (s : State) : Out := finish 8 s

/-- `NOP (ED 77, ED 7F)` (R376). -/
def execNopEd77 (_q : BitVec 1) (s : State) : Out := finish 8 s

/-- `NOP (ED 80-9F)` (R376). -/
def execNopEd80 (_p : BitVec 1) (_q : BitVec 1) (_z : BitVec 3) (s : State) : Out := finish 8 s

/-- `NOP (ED A4-A7, AC-AF, B4-B7, BC-BF)` (R376). -/
def execNopEdA4 (_p : BitVec 1) (_q : BitVec 1) (_z : BitVec 2) (s : State) : Out := finish 8 s

/-- `NOP (ED, x=3)` (R376). -/
def execNopEdX3 (_y : BitVec 3) (_z : BitVec 3) (s : State) : Out := finish 8 s

/-- `NONI (DD prefix alone; next byte not consumed)` (R152). -/
def execNoniDd (s : State) : Out := finish 4 { s with cpu.intInhibit := true }

/-- `NONI (FD prefix alone; next byte not consumed)` (R152). -/
def execNoniFd (s : State) : Out := finish 4 { s with cpu.intInhibit := true }

end Sys2Proof.Machine
end

