-- ==== Sys2Proof/Machine/Vdp.lean ====
section
/-! DEFINITION. The VDP: its port operations (60_exceptions R643 to R645), the interrupt line (R620), the line stepper and the render
hook (R630, R634), and the V counter (R648). Each is a function of VDP state; the two free bits of the hook are arguments. -/

namespace Sys2Proof.Machine

/-- `code_addr[13:0]` as an index into VRAM (10_state R55). -/
def Vdp.addr (d : Vdp) : Nat := (d.codeAddr.extractLsb' 0 14).toNat

/-- `code_addr[15:14]` (10_state R55). -/
def Vdp.code (d : Vdp) : BitVec 2 := d.codeAddr.extractLsb' 14 2

/-- `code_addr[13:0] <- (code_addr[13:0] + 1) mod 0x4000`, the code kept (60_exceptions R643, R644). -/
def Vdp.nextAddr (d : Vdp) : Vdp :=
  { d with codeAddr := d.codeAddr.extractLsb' 14 2 ++ (d.codeAddr.extractLsb' 0 14 + 1) }

/-- `read_buffer <- vram[code_addr[13:0]]`, then the address advanced (60_exceptions R643, R644). -/
def Vdp.prefetch (d : Vdp) : Vdp := Vdp.nextAddr { d with readBuffer := Memory.read d.vram d.addr }

/-- The index `v and 0x0F` of a register write (60_exceptions R643). -/
def vdpRegIndex (v : Byte) : Fin 16 := (v.extractLsb' 0 4).toFin

/-- `VdpControlWrite(v)` (60_exceptions R643), with the register-write event it may emit (log 9). -/
def Vdp.controlWrite (d : Vdp) (v : Byte) : Vdp × List Event :=
  if d.firstWrite then
    let d1 := { d with codeAddr := v ++ d.codeAddr.extractLsb' 0 8, firstWrite := false }
    match d1.code.toNat with
    | 0 => (d1.prefetch, [])
    | 2 =>
      ({ d1 with reg := d1.reg.set (vdpRegIndex v) (loByte d1.codeAddr) },
        [.vdpRegisterWrite (vdpRegIndex v) (loByte d1.codeAddr)])
    | _ => (d1, [])
  else ({ d with codeAddr := d.codeAddr.extractLsb' 8 8 ++ v, firstWrite := true }, [])

/-- The CRAM index `code_addr[4:0]` (60_exceptions R644). -/
def Vdp.cramIndex (d : Vdp) : Fin 32 := (d.codeAddr.extractLsb' 0 5).toFin

/-- `VdpDataWrite(v)` (60_exceptions R644). -/
def Vdp.dataWrite (d : Vdp) (v : Byte) : Vdp :=
  let d1 := { d with firstWrite := false }
  let d2 :=
    if d1.code = 3 then { d1 with cram := d1.cram.set d1.cramIndex v }
    else { d1 with vram := Memory.write d1.vram d1.addr v }
  Vdp.nextAddr { d2 with readBuffer := v }

/-- `VdpDataRead()`: the byte returned and the VDP after it (60_exceptions R644). -/
def Vdp.dataRead (d : Vdp) : Byte × Vdp := (d.readBuffer, Vdp.prefetch { d with firstWrite := false })

/-- The status byte a status port read returns: `status and 0xE0` (60_exceptions R645). -/
def VdpStatus.visible (st : VdpStatus) : Byte :=
  BitVec.ofBool st.frameInt ++ BitVec.ofBool st.sprOvf ++ BitVec.ofBool st.sprCol ++ (0 : BitVec 5)

/-- The whole status register as a byte (10_state R50). -/
def VdpStatus.toByte (st : VdpStatus) : Byte :=
  BitVec.ofBool st.frameInt ++ BitVec.ofBool st.sprOvf ++ BitVec.ofBool st.sprCol ++ BitVec.ofBool st.lineInt ++ (0 : BitVec 4)

/-- `VdpStatusRead()`: the byte returned and the VDP after it (60_exceptions R645). -/
def Vdp.statusRead (d : Vdp) : Byte × Vdp :=
  (d.status.visible, { d with firstWrite := false, status := ⟨false, false, false, false⟩ })

/-- `VdpIntLine()` (60_exceptions R620). -/
def Vdp.intLine (d : Vdp) : Bool :=
  (d.status.frameInt && d.reg[1].getLsbD 5) || (d.status.lineInt && d.reg[0].getLsbD 4)

/-- The V counter port (60_exceptions R648). -/
def vCounter (tv : TvSystem) (v : Nat) : Byte :=
  match tv with
  | .ntsc => trunc8 (if v ≤ 0xDA then v else v - 6)
  | .pal => trunc8 (if v ≤ 0xF2 then v else v - 57)

/-- The frame interrupt part of `VdpLineStep` (60_exceptions R630). -/
def Vdp.frameIntStep (cfg : Config) (d : Vdp) : Vdp :=
  if d.v = cfg.activeLines then { d with status.frameInt := true } else d

/-- The line counter part of `VdpLineStep` (60_exceptions R630). -/
def Vdp.lineCounterStep (cfg : Config) (d : Vdp) : Vdp :=
  if d.v ≤ cfg.activeLines then
    if d.lineCounter - 1 = 0xFF then { d with lineCounter := d.reg[10], status.lineInt := true }
    else { d with lineCounter := d.lineCounter - 1 }
  else { d with lineCounter := d.reg[10] }

/-- The vertical counter part of `VdpLineStep`: `v`, the scroll latch on wrap, `vdp_cycles` (60_exceptions R630). -/
def Vdp.advanceLine (cfg : Config) (d : Vdp) : Vdp :=
  let v := (d.v + 1) % cfg.tv.totalLines
  { d with
    v := v
    vscrollLatch := if v = 0 then d.reg[9] else d.vscrollLatch
    vdpCycles := d.vdpCycles + cfg.vdpCyclesPerLine }

/-- Whether the render hook is invoked on the call entered with line `v` (60_exceptions R634). -/
def hookInvoked (cfg : Config) (v : Nat) : Bool :=
  (v + 1) % cfg.tv.totalLines == 0 || (cfg.renderMode == .line && decide (v < cfg.activeLines))

/-- `RenderHook()` with its two draws (60_exceptions R634). -/
def Vdp.renderHook (d : Vdp) (o1 o2 : Bool) : Vdp :=
  { d with status.sprOvf := d.status.sprOvf || o1, status.sprCol := d.status.sprCol || o2 }

/-- `VdpLineStep()` without the render hook (60_exceptions R630). -/
def Vdp.lineStep (cfg : Config) (d : Vdp) : Vdp := ((d.frameIntStep cfg).lineCounterStep cfg).advanceLine cfg

/-- `VdpLineStep()` of the session, the render hook's two draws taken from the free values (60_exceptions R630, R634; log 8). -/
def State.vdpLineStep (s : State) : State :=
  let d := s.vdp.lineStep s.cfg
  if hookInvoked s.cfg s.vdp.v then
    { s with
      vdp := d.renderHook (Config.freeSpriteOverflow s.draws) (Config.freeSpriteCollision s.draws)
      draws := s.draws + 1 }
  else { s with vdp := d }

end Sys2Proof.Machine
end

