-- ==== Sys2Proof/Machine/Ports.lean ====
section
/-! DEFINITION. The I/O ports (60_exceptions R640, R641, R646 to R648; 20_memory R82). -/

namespace Sys2Proof.Machine

/-- `IoRead(port)`: the byte and the state after it; `port[7:6]` and `port[0]` alone are decoded (60_exceptions R640). -/
def State.ioRead (s : State) (port : Word) : Byte × State :=
  match (port.extractLsb' 6 2).toNat, port.getLsbD 0 with
  | 0, _ => (0xFF, s)
  | 1, false => (vCounter s.cfg.tv s.vdp.v, s)
  | 1, true => (Config.freeHCounter s.draws, { s with draws := s.draws + 1 })
  | 2, false => (s.vdp.dataRead.1, { s with vdp := s.vdp.dataRead.2 })
  | 2, true => (s.vdp.statusRead.1, { s with vdp := s.vdp.statusRead.2 })
  | _, false => (s.joypad0, s)
  | _, true => (s.joypad1, s)

/-- `IoWrite(port, v)` (60_exceptions R641). -/
def State.ioWrite (s : State) (port : Word) (v : Byte) : State :=
  match (port.extractLsb' 6 2).toNat, port.getLsbD 0 with
  | 0, _ => s
  | 1, _ => s.emit [.soundWrite s.cpu.cycles v]
  | 2, false => { s with vdp := s.vdp.dataWrite v }
  | 2, true => State.emit { s with vdp := (s.vdp.controlWrite v).1 } (s.vdp.controlWrite v).2
  | _, _ => s

end Sys2Proof.Machine
end

