-- ==== Sys2Proof/Machine/Io.lean ====
section
/-! DEFINITION. The input and output group (49_io R520 to R536). One meaning per instruction: its effect, then its cost added once
(30_encoding R141). -/

namespace Sys2Proof.Machine

/-- `A <- IoRead(port)` (49_io R521). -/
def State.inputA (s : State) (port : Word) : State := (s.ioRead port).2.setR8 .a (s.ioRead port).1

/-- The flags of `IN (C)`: the port is read, the byte stored nowhere (49_io R523, R522). -/
def State.inputFlags (s : State) : State :=
  let t := s.ioRead s.bc
  t.2.writeF (valueFlags t.1 t.2.cpu.f t.2.free)

/-- `IN r,(C)` (49_io R522). -/
def State.inputReg (s : State) (r : Reg8) : State := s.inputFlags.setR8 r (s.ioRead s.bc).1

/-- One iteration of a block input, `k` the step of HL: the port is addressed by the old B (49_io R524, R526). -/
def State.blockIn (s : State) (k : Word) : State :=
  let t := s.ioRead s.bc
  let s1 := ((t.2.memWrite s.hl t.1).setHl (s.hl + k)).setR8 .b (s.cpu.b - 1)
  s1.writeF (blockIoFlags (s.cpu.b - 1) s1.cpu.f s1.free)

/-- One iteration of a block output, `k` the step of HL: the port is addressed by the new B (49_io R533, R535). -/
def State.blockOut (s : State) (k : Word) : State :=
  let s1 := s.setR8 .b (s.cpu.b - 1)
  let s2 := (s1.ioWrite s1.bc (s.memRead s.hl)).setHl (s.hl + k)
  s2.writeF (blockIoFlags (s.cpu.b - 1) s2.cpu.f s2.free)

/-- `OUT (n),A` (R529). -/
def execOutNA (n : Byte) (s : State) : Out := finish 11 (s.ioWrite (wordOf s.cpu.a n) s.cpu.a)

/-- `IN A,(n)` (R521). -/
def execInAN (n : Byte) (s : State) : Out := finish 11 (s.inputA (wordOf s.cpu.a n))

/-- `IN r,(C)` (R522). -/
def execInRC (r : Reg8) (s : State) : Out := finish 12 (s.inputReg r)

/-- `IN (C)` (R523). -/
def execInC (s : State) : Out := finish 12 s.inputFlags

/-- `OUT (C),r` (R530). -/
def execOutCR (r : Reg8) (s : State) : Out := finish 12 (s.ioWrite s.bc (s.getR8 r))

/-- `OUT (C),0` (R532). -/
def execOutC0 (s : State) : Out := finish 12 (s.ioWrite s.bc 0x00)

/-- `INI` (R524). -/
def execIni (s : State) : Out := finish 16 (s.blockIn 1)

/-- `OUTI` (R533). -/
def execOuti (s : State) : Out := finish 16 (s.blockOut 1)

/-- `IND` (R526). -/
def execInd (s : State) : Out := finish 16 (s.blockIn (-1))

/-- `OUTD` (R535). -/
def execOutd (s : State) : Out := finish 16 (s.blockOut (-1))

/-- `INIR` (R525). -/
def execInir (s : State) : Out := repeatWhile ((s.blockIn 1).cpu.b != 0) (s.blockIn 1)

/-- `OTIR` (R534). -/
def execOtir (s : State) : Out := repeatWhile ((s.blockOut 1).cpu.b != 0) (s.blockOut 1)

/-- `INDR` (R528). -/
def execIndr (s : State) : Out := repeatWhile ((s.blockIn (-1)).cpu.b != 0) (s.blockIn (-1))

/-- `OTDR` (R536). -/
def execOtdr (s : State) : Out := repeatWhile ((s.blockOut (-1)).cpu.b != 0) (s.blockOut (-1))

end Sys2Proof.Machine
end

