-- ==== Sys2Proof/Machine/Jump.lean ====
section
/-! DEFINITION. The jump group and the call and return group (48_jump_call_return R480 to R502). One meaning per instruction: its effect, then its cost added once
(30_encoding R141). -/

namespace Sys2Proof.Machine

/-- `PC <- trunc16(PC + sext_16(e))`, PC past the instruction (48_jump_call_return R483). -/
def State.jumpRelative (s : State) (e : Byte) : State := s.setPc (s.cpu.pc + sext16 e)

/-- `JR` under a condition: 12 cycles taken, 7 not (48_jump_call_return R484 to R487). -/
def State.jrWhen (s : State) (taken : Bool) (e : Byte) : Out :=
  if taken then finish 12 (s.jumpRelative e) else finish 7 s

/-- The jump of `DJNZ`: 13 cycles taken, 8 not (48_jump_call_return R491). -/
def State.djnzWhen (s : State) (taken : Bool) (e : Byte) : Out :=
  if taken then finish 13 (s.jumpRelative e) else finish 8 s

/-- The target of `RST`, `y*8` (48_jump_call_return R501). -/
def rstTarget (y : BitVec 3) : Word := trunc16 (8 * y.toNat)

/-- `DJNZ e` (R491). -/
def execDjnz (e : Byte) (s : State) : Out := (s.setR8 .b (s.cpu.b - 1)).djnzWhen (s.cpu.b - 1 != 0) e

/-- `JR e` (R483). -/
def execJr (e : Byte) (s : State) : Out := finish 12 (s.jumpRelative e)

/-- `JR NZ,e` (R487). -/
def execJrNz (e : Byte) (s : State) : Out := s.jrWhen (condHolds s.cpu.f .nz) e

/-- `JR Z,e` (R486). -/
def execJrZ (e : Byte) (s : State) : Out := s.jrWhen (condHolds s.cpu.f .z) e

/-- `JR NC,e` (R485). -/
def execJrNc (e : Byte) (s : State) : Out := s.jrWhen (condHolds s.cpu.f .nc) e

/-- `JR C,e` (R484). -/
def execJrC (e : Byte) (s : State) : Out := s.jrWhen (condHolds s.cpu.f .c) e

/-- `RET cc` (R495). -/
def execRetCc (cc : Cond) (s : State) : Out := if condHolds s.cpu.f cc then finish 11 s.popPc else finish 5 s

/-- `RET` (R494). -/
def execRet (s : State) : Out := finish 10 s.popPc

/-- `JP (HL)` (R488). -/
def execJpHl (s : State) : Out := finish 4 (s.setPc s.hl)

/-- `JP cc,nn` (R482). -/
def execJpCcNn (cc : Cond) (nn : Word) (s : State) : Out := finish 10 (if condHolds s.cpu.f cc then s.setPc nn else s)

/-- `JP nn` (R481). -/
def execJpNn (nn : Word) (s : State) : Out := finish 10 (s.setPc nn)

/-- `CALL cc,nn` (R493). -/
def execCallCcNn (cc : Cond) (nn : Word) (s : State) : Out := if condHolds s.cpu.f cc then finish 17 (s.callTo nn) else finish 10 s

/-- `CALL nn` (R492). -/
def execCallNn (nn : Word) (s : State) : Out := finish 17 (s.callTo nn)

/-- `RST p` (R501). -/
def execRst (y : BitVec 3) (s : State) : Out := finish 11 (s.callTo (rstTarget y))

/-- `RETN` (R499). -/
def execRetn (s : State) : Out := finish 14 s.returnFromNmi

/-- `RETI` (R498). -/
def execReti (s : State) : Out := finish 14 s.returnFromInt

/-- `RETN (mirror)` (R500). -/
def execRetnMirror (_y : BitVec 3) (s : State) : Out := finish 14 s.returnFromNmi

/-- `JP (IX)` (R489). -/
def execJpIx (s : State) : Out := finish 8 (s.setPc s.cpu.ix)

/-- `JP (IY)` (R490). -/
def execJpIy (s : State) : Out := finish 8 (s.setPc s.cpu.iy)

end Sys2Proof.Machine
end

