-- ==== Sys2Proof/Machine/Load16.lean ====
section
/-! DEFINITION. The 16-bit load group, PUSH and POP (41_load16_stack R240 to R261). One meaning per instruction: its effect, then its cost added once
(30_encoding R141). -/

namespace Sys2Proof.Machine

/-- `LD dd,nn` (R241). -/
def execLdDdNn (dd : Pair) (nn : Word) (s : State) : Out := finish 10 (s.setPair dd nn)

/-- `LD (nn),HL` (R248). -/
def execLdMemNnHl (nn : Word) (s : State) : Out := finish 16 (s.memWrite16 nn s.hl)

/-- `LD HL,(nn)` (R244). -/
def execLdHlMemNn (nn : Word) (s : State) : Out := finish 16 (s.setHl (s.memRead16 nn))

/-- `POP qq` (R259). -/
def execPopQq (qq : PairQ) (s : State) : Out := finish 10 (s.dropStack.setPairQ qq s.stackTop)

/-- `LD SP,HL` (R252). -/
def execLdSpHl (s : State) : Out := finish 6 (s.setSp s.hl)

/-- `PUSH qq` (R256). -/
def execPushQq (qq : PairQ) (s : State) : Out := finish 11 (s.push16 (s.getPairQ qq))

/-- `LD (nn),dd` (R249). -/
def execLdMemNnDd (nn : Word) (dd : Pair) (s : State) : Out := finish 20 (s.memWrite16 nn (s.getPair dd))

/-- `LD dd,(nn)` (R245). -/
def execLdDdMemNn (dd : Pair) (nn : Word) (s : State) : Out := finish 20 (s.setPair dd (s.memRead16 nn))

/-- `LD IX,nn` (R242). -/
def execLdIxNn (nn : Word) (s : State) : Out := finish 14 (s.setIx nn)

/-- `LD (nn),IX` (R250). -/
def execLdMemNnIx (nn : Word) (s : State) : Out := finish 20 (s.memWrite16 nn s.cpu.ix)

/-- `LD IX,(nn)` (R246). -/
def execLdIxMemNn (nn : Word) (s : State) : Out := finish 20 (s.setIx (s.memRead16 nn))

/-- `POP IX` (R260). -/
def execPopIx (s : State) : Out := finish 14 (s.dropStack.setIx s.stackTop)

/-- `PUSH IX` (R257). -/
def execPushIx (s : State) : Out := finish 15 (s.push16 s.cpu.ix)

/-- `LD SP,IX` (R254). -/
def execLdSpIx (s : State) : Out := finish 10 (s.setSp s.cpu.ix)

/-- `LD IY,nn` (R243). -/
def execLdIyNn (nn : Word) (s : State) : Out := finish 14 (s.setIy nn)

/-- `LD (nn),IY` (R251). -/
def execLdMemNnIy (nn : Word) (s : State) : Out := finish 20 (s.memWrite16 nn s.cpu.iy)

/-- `LD IY,(nn)` (R247). -/
def execLdIyMemNn (nn : Word) (s : State) : Out := finish 20 (s.setIy (s.memRead16 nn))

/-- `POP IY` (R261). -/
def execPopIy (s : State) : Out := finish 14 (s.dropStack.setIy s.stackTop)

/-- `PUSH IY` (R258). -/
def execPushIy (s : State) : Out := finish 15 (s.push16 s.cpu.iy)

/-- `LD SP,IY` (R255). -/
def execLdSpIy (s : State) : Out := finish 10 (s.setSp s.cpu.iy)

end Sys2Proof.Machine
end

