-- ==== Sys2Proof/Machine/Load8.lean ====
section
/-! DEFINITION. The 8-bit load group (40_load8 R200 to R224). One meaning per instruction: its effect, then its cost added once
(30_encoding R141). -/

namespace Sys2Proof.Machine

/-- `A <- v` with the flags of `LD A,I` and `LD A,R` (40_load8 R218, R219). -/
def State.loadA (s : State) (v : Byte) : State :=
  (s.writeF (loadIRFlags v s.cpu.iff2 s.cpu.f s.free)).setR8 .a v

/-- `LD (BC),A` (R215). -/
def execLdMemBcA (s : State) : Out := finish 7 (s.memWrite s.bc s.cpu.a)

/-- `LD A,(BC)` (R212). -/
def execLdAMemBc (s : State) : Out := finish 7 (s.setR8 .a (s.memRead s.bc))

/-- `LD (DE),A` (R216). -/
def execLdMemDeA (s : State) : Out := finish 7 (s.memWrite s.de s.cpu.a)

/-- `LD A,(DE)` (R213). -/
def execLdAMemDe (s : State) : Out := finish 7 (s.setR8 .a (s.memRead s.de))

/-- `LD (nn),A` (R217). -/
def execLdMemNnA (nn : Word) (s : State) : Out := finish 13 (s.memWrite nn s.cpu.a)

/-- `LD A,(nn)` (R214). -/
def execLdAMemNn (nn : Word) (s : State) : Out := finish 13 (s.setR8 .a (s.memRead nn))

/-- `LD r,n` (R202). -/
def execLdRN (r : Reg8) (n : Byte) (s : State) : Out := finish 7 (s.setR8 r n)

/-- `LD (HL),n` (R209). -/
def execLdMemHlN (n : Byte) (s : State) : Out := finish 10 (s.memWrite s.hl n)

/-- `LD r,r'` (R201). -/
def execLdRR (dst : Reg8) (src : Reg8) (s : State) : Out := finish 4 (s.setR8 dst (s.getR8 src))

/-- `LD r,(HL)` (R203). -/
def execLdRMemHl (r : Reg8) (s : State) : Out := finish 7 (s.setR8 r (s.memRead s.hl))

/-- `LD (HL),r` (R206). -/
def execLdMemHlR (r : Reg8) (s : State) : Out := finish 7 (s.memWrite s.hl (s.getR8 r))

/-- `LD I,A` (R220). -/
def execLdIA (s : State) : Out := finish 9 { s with cpu.i := s.cpu.a }

/-- `LD R,A` (R221). -/
def execLdRA (s : State) : Out := finish 9 { s with cpu.r := s.cpu.a }

/-- `LD A,I` (R218). -/
def execLdAI (s : State) : Out := finish 9 (s.loadA s.cpu.i)

/-- `LD A,R` (R219). -/
def execLdAR (s : State) : Out := finish 9 (s.loadA s.cpu.r)

/-- `LD IXH,n / LD IXL,n` (R224). -/
def execLdIxHalfN (h : Half) (n : Byte) (s : State) : Out := finish 11 (s.setIx (setHalf s.cpu.ix h n))

/-- `LD (IX+d),n` (R210). -/
def execLdMemIxN (d : Byte) (n : Byte) (s : State) : Out := finish 19 (s.memWrite (s.ixd d) n)

/-- `LD r,(IX+d)` (R204). -/
def execLdRMemIx (r : Reg8) (d : Byte) (s : State) : Out := finish 19 (s.setR8 r (s.memRead (s.ixd d)))

/-- `LD (IX+d),r` (R207). -/
def execLdMemIxR (d : Byte) (r : Reg8) (s : State) : Out := finish 19 (s.memWrite (s.ixd d) (s.getR8 r))

/-- `LD p,p' with IXH/IXL` (R222). -/
def execLdPPIx (dst : RegP) (src : RegP) (s : State) : Out := finish 8 (s.setRegPIx dst (s.getRegP s.cpu.ix src))

/-- `LD IYH,n / LD IYL,n` (R224). -/
def execLdIyHalfN (h : Half) (n : Byte) (s : State) : Out := finish 11 (s.setIy (setHalf s.cpu.iy h n))

/-- `LD (IY+d),n` (R211). -/
def execLdMemIyN (d : Byte) (n : Byte) (s : State) : Out := finish 19 (s.memWrite (s.iyd d) n)

/-- `LD r,(IY+d)` (R205). -/
def execLdRMemIy (r : Reg8) (d : Byte) (s : State) : Out := finish 19 (s.setR8 r (s.memRead (s.iyd d)))

/-- `LD (IY+d),r` (R208). -/
def execLdMemIyR (d : Byte) (r : Reg8) (s : State) : Out := finish 19 (s.memWrite (s.iyd d) (s.getR8 r))

/-- `LD p,p' with IYH/IYL` (R223). -/
def execLdPPIy (dst : RegP) (src : RegP) (s : State) : Out := finish 8 (s.setRegPIy dst (s.getRegP s.cpu.iy src))

end Sys2Proof.Machine
end

