-- ==== Sys2Proof/Machine/Rotate.lean ====
section
/-! DEFINITION. The rotate and shift group (46_rotate_shift R420 to R437). One meaning per instruction: its effect, then its cost added once
(30_encoding R141). -/

namespace Sys2Proof.Machine

/-- An accumulator rotate by one of the shift operations of Flags.lean (46_rotate_shift R421 to R424). -/
def State.rotA (s : State) (op : Byte → Bool → Byte × Bool) : State :=
  let t := op s.cpu.a s.cpu.f.c
  (s.writeF (rotAFlags t.2 s.cpu.f s.free)).setR8 .a t.1

/-- A rotate or shift of a register (46_rotate_shift R425, R426). -/
def State.shiftReg (s : State) (op : Byte → Bool → Byte × Bool) (r : Reg8) : State :=
  let t := op (s.getR8 r) s.cpu.f.c
  (s.writeF (shiftFlags t.1 t.2 s.free)).setR8 r t.1

/-- A rotate or shift of the byte at an address; the flags hold even if the store is discarded (46_rotate_shift R425, R426). -/
def State.shiftMem (s : State) (op : Byte → Bool → Byte × Bool) (a : Word) : State :=
  let t := op (s.memRead a) s.cpu.f.c
  (s.memWrite a t.1).writeF (shiftFlags t.1 t.2 s.free)

/-- A rotate or shift of the byte at an address with the result copied into a register (46_rotate_shift R435). -/
def State.shiftMemCopy (s : State) (op : Byte → Bool → Byte × Bool) (a : Word) (r : Reg8) : State :=
  (s.shiftMem op a).setR8 r (op (s.memRead a) s.cpu.f.c).1

/-- `RLD` (46_rotate_shift R436). -/
def State.rotateDigitLeft (s : State) : State :=
  let t := s.memRead s.hl
  let a := s.cpu.a.extractLsb' 4 4 ++ t.extractLsb' 4 4
  let s1 := s.memWrite s.hl (t.extractLsb' 0 4 ++ s.cpu.a.extractLsb' 0 4)
  (s1.writeF (valueFlags a s.cpu.f s.free)).setR8 .a a

/-- `RRD` (46_rotate_shift R437). -/
def State.rotateDigitRight (s : State) : State :=
  let t := s.memRead s.hl
  let a := s.cpu.a.extractLsb' 4 4 ++ t.extractLsb' 0 4
  let s1 := s.memWrite s.hl (s.cpu.a.extractLsb' 0 4 ++ t.extractLsb' 4 4)
  (s1.writeF (valueFlags a s.cpu.f s.free)).setR8 .a a

/-- `RLCA` (R421). -/
def execRlca (s : State) : Out := finish 4 (s.rotA rlc8)

/-- `RRCA` (R423). -/
def execRrca (s : State) : Out := finish 4 (s.rotA rrc8)

/-- `RLA` (R422). -/
def execRla (s : State) : Out := finish 4 (s.rotA rl8)

/-- `RRA` (R424). -/
def execRra (s : State) : Out := finish 4 (s.rotA rr8)

/-- `RLC r` (R427). -/
def execRlcR (r : Reg8) (s : State) : Out := finish 8 (s.shiftReg rlc8 r)

/-- `RLC (HL)` (R427). -/
def execRlcMemHl (s : State) : Out := finish 15 (s.shiftMem rlc8 s.hl)

/-- `RRC r` (R429). -/
def execRrcR (r : Reg8) (s : State) : Out := finish 8 (s.shiftReg rrc8 r)

/-- `RRC (HL)` (R429). -/
def execRrcMemHl (s : State) : Out := finish 15 (s.shiftMem rrc8 s.hl)

/-- `RL r` (R428). -/
def execRlR (r : Reg8) (s : State) : Out := finish 8 (s.shiftReg rl8 r)

/-- `RL (HL)` (R428). -/
def execRlMemHl (s : State) : Out := finish 15 (s.shiftMem rl8 s.hl)

/-- `RR r` (R430). -/
def execRrR (r : Reg8) (s : State) : Out := finish 8 (s.shiftReg rr8 r)

/-- `RR (HL)` (R430). -/
def execRrMemHl (s : State) : Out := finish 15 (s.shiftMem rr8 s.hl)

/-- `SLA r` (R431). -/
def execSlaR (r : Reg8) (s : State) : Out := finish 8 (s.shiftReg sla8 r)

/-- `SLA (HL)` (R431). -/
def execSlaMemHl (s : State) : Out := finish 15 (s.shiftMem sla8 s.hl)

/-- `SRA r` (R432). -/
def execSraR (r : Reg8) (s : State) : Out := finish 8 (s.shiftReg sra8 r)

/-- `SRA (HL)` (R432). -/
def execSraMemHl (s : State) : Out := finish 15 (s.shiftMem sra8 s.hl)

/-- `SLL r` (R434). -/
def execSllR (r : Reg8) (s : State) : Out := finish 8 (s.shiftReg sll8 r)

/-- `SLL (HL)` (R434). -/
def execSllMemHl (s : State) : Out := finish 15 (s.shiftMem sll8 s.hl)

/-- `SRL r` (R433). -/
def execSrlR (r : Reg8) (s : State) : Out := finish 8 (s.shiftReg srl8 r)

/-- `SRL (HL)` (R433). -/
def execSrlMemHl (s : State) : Out := finish 15 (s.shiftMem srl8 s.hl)

/-- `RRD` (R437). -/
def execRrd (s : State) : Out := finish 18 s.rotateDigitRight

/-- `RLD` (R436). -/
def execRld (s : State) : Out := finish 18 s.rotateDigitLeft

/-- `RLC (IX+d)` (R427). -/
def execRlcMemIx (d : Byte) (s : State) : Out := finish 23 (s.shiftMem rlc8 (s.ixd d))

/-- `RLC (IX+d),r` (R435). -/
def execRlcMemIxR (d : Byte) (r : Reg8) (s : State) : Out := finish 23 (s.shiftMemCopy rlc8 (s.ixd d) r)

/-- `RRC (IX+d)` (R429). -/
def execRrcMemIx (d : Byte) (s : State) : Out := finish 23 (s.shiftMem rrc8 (s.ixd d))

/-- `RRC (IX+d),r` (R435). -/
def execRrcMemIxR (d : Byte) (r : Reg8) (s : State) : Out := finish 23 (s.shiftMemCopy rrc8 (s.ixd d) r)

/-- `RL (IX+d)` (R428). -/
def execRlMemIx (d : Byte) (s : State) : Out := finish 23 (s.shiftMem rl8 (s.ixd d))

/-- `RL (IX+d),r` (R435). -/
def execRlMemIxR (d : Byte) (r : Reg8) (s : State) : Out := finish 23 (s.shiftMemCopy rl8 (s.ixd d) r)

/-- `RR (IX+d)` (R430). -/
def execRrMemIx (d : Byte) (s : State) : Out := finish 23 (s.shiftMem rr8 (s.ixd d))

/-- `RR (IX+d),r` (R435). -/
def execRrMemIxR (d : Byte) (r : Reg8) (s : State) : Out := finish 23 (s.shiftMemCopy rr8 (s.ixd d) r)

/-- `SLA (IX+d)` (R431). -/
def execSlaMemIx (d : Byte) (s : State) : Out := finish 23 (s.shiftMem sla8 (s.ixd d))

/-- `SLA (IX+d),r` (R435). -/
def execSlaMemIxR (d : Byte) (r : Reg8) (s : State) : Out := finish 23 (s.shiftMemCopy sla8 (s.ixd d) r)

/-- `SRA (IX+d)` (R432). -/
def execSraMemIx (d : Byte) (s : State) : Out := finish 23 (s.shiftMem sra8 (s.ixd d))

/-- `SRA (IX+d),r` (R435). -/
def execSraMemIxR (d : Byte) (r : Reg8) (s : State) : Out := finish 23 (s.shiftMemCopy sra8 (s.ixd d) r)

/-- `SLL (IX+d)` (R434). -/
def execSllMemIx (d : Byte) (s : State) : Out := finish 23 (s.shiftMem sll8 (s.ixd d))

/-- `SLL (IX+d),r` (R435). -/
def execSllMemIxR (d : Byte) (r : Reg8) (s : State) : Out := finish 23 (s.shiftMemCopy sll8 (s.ixd d) r)

/-- `SRL (IX+d)` (R433). -/
def execSrlMemIx (d : Byte) (s : State) : Out := finish 23 (s.shiftMem srl8 (s.ixd d))

/-- `SRL (IX+d),r` (R435). -/
def execSrlMemIxR (d : Byte) (r : Reg8) (s : State) : Out := finish 23 (s.shiftMemCopy srl8 (s.ixd d) r)

/-- `RLC (IY+d)` (R427). -/
def execRlcMemIy (d : Byte) (s : State) : Out := finish 23 (s.shiftMem rlc8 (s.iyd d))

/-- `RLC (IY+d),r` (R435). -/
def execRlcMemIyR (d : Byte) (r : Reg8) (s : State) : Out := finish 23 (s.shiftMemCopy rlc8 (s.iyd d) r)

/-- `RRC (IY+d)` (R429). -/
def execRrcMemIy (d : Byte) (s : State) : Out := finish 23 (s.shiftMem rrc8 (s.iyd d))

/-- `RRC (IY+d),r` (R435). -/
def execRrcMemIyR (d : Byte) (r : Reg8) (s : State) : Out := finish 23 (s.shiftMemCopy rrc8 (s.iyd d) r)

/-- `RL (IY+d)` (R428). -/
def execRlMemIy (d : Byte) (s : State) : Out := finish 23 (s.shiftMem rl8 (s.iyd d))

/-- `RL (IY+d),r` (R435). -/
def execRlMemIyR (d : Byte) (r : Reg8) (s : State) : Out := finish 23 (s.shiftMemCopy rl8 (s.iyd d) r)

/-- `RR (IY+d)` (R430). -/
def execRrMemIy (d : Byte) (s : State) : Out := finish 23 (s.shiftMem rr8 (s.iyd d))

/-- `RR (IY+d),r` (R435). -/
def execRrMemIyR (d : Byte) (r : Reg8) (s : State) : Out := finish 23 (s.shiftMemCopy rr8 (s.iyd d) r)

/-- `SLA (IY+d)` (R431). -/
def execSlaMemIy (d : Byte) (s : State) : Out := finish 23 (s.shiftMem sla8 (s.iyd d))

/-- `SLA (IY+d),r` (R435). -/
def execSlaMemIyR (d : Byte) (r : Reg8) (s : State) : Out := finish 23 (s.shiftMemCopy sla8 (s.iyd d) r)

/-- `SRA (IY+d)` (R432). -/
def execSraMemIy (d : Byte) (s : State) : Out := finish 23 (s.shiftMem sra8 (s.iyd d))

/-- `SRA (IY+d),r` (R435). -/
def execSraMemIyR (d : Byte) (r : Reg8) (s : State) : Out := finish 23 (s.shiftMemCopy sra8 (s.iyd d) r)

/-- `SLL (IY+d)` (R434). -/
def execSllMemIy (d : Byte) (s : State) : Out := finish 23 (s.shiftMem sll8 (s.iyd d))

/-- `SLL (IY+d),r` (R435). -/
def execSllMemIyR (d : Byte) (r : Reg8) (s : State) : Out := finish 23 (s.shiftMemCopy sll8 (s.iyd d) r)

/-- `SRL (IY+d)` (R433). -/
def execSrlMemIy (d : Byte) (s : State) : Out := finish 23 (s.shiftMem srl8 (s.iyd d))

/-- `SRL (IY+d),r` (R435). -/
def execSrlMemIyR (d : Byte) (r : Reg8) (s : State) : Out := finish 23 (s.shiftMemCopy srl8 (s.iyd d) r)

end Sys2Proof.Machine
end

