-- ==== Sys2Proof/Machine/Prefix.lean ====
section
/-! DEFINITION. The prefix rows of the opcode table: decoding continues in the format the row names (30_encoding R141, R163; log 13).
The step never meets one, since `decodeWindow` follows the prefix itself; `exec` of a prefix row is what remains to be done when
its bytes alone have been fetched. -/

namespace Sys2Proof.Machine

/-- The meaning of a table entry reached through a prefix. It calls the meanings `exec` calls; a prefix row among the entries is
refused, and the decoder never gives one (log 13). -/
def runEntry (i : Instr) (s : State) : Out :=
  match i with
  | .nop => execNop s
  | .exAfAf => execExAfAf s
  | .djnz e => execDjnz e s
  | .jr e => execJr e s
  | .jrNz e => execJrNz e s
  | .jrZ e => execJrZ e s
  | .jrNc e => execJrNc e s
  | .jrC e => execJrC e s
  | .ldDdNn dd nn => execLdDdNn dd nn s
  | .addHlSs ss => execAddHlSs ss s
  | .ldMemBcA => execLdMemBcA s
  | .ldAMemBc => execLdAMemBc s
  | .ldMemDeA => execLdMemDeA s
  | .ldAMemDe => execLdAMemDe s
  | .ldMemNnHl nn => execLdMemNnHl nn s
  | .ldHlMemNn nn => execLdHlMemNn nn s
  | .ldMemNnA nn => execLdMemNnA nn s
  | .ldAMemNn nn => execLdAMemNn nn s
  | .incSs ss => execIncSs ss s
  | .decSs ss => execDecSs ss s
  | .incR r => execIncR r s
  | .incMemHl => execIncMemHl s
  | .decR r => execDecR r s
  | .decMemHl => execDecMemHl s
  | .ldRN r n => execLdRN r n s
  | .ldMemHlN n => execLdMemHlN n s
  | .rlca => execRlca s
  | .rrca => execRrca s
  | .rla => execRla s
  | .rra => execRra s
  | .daa => execDaa s
  | .cpl => execCpl s
  | .scf => execScf s
  | .ccf => execCcf s
  | .ldRR dst src => execLdRR dst src s
  | .ldRMemHl r => execLdRMemHl r s
  | .ldMemHlR r => execLdMemHlR r s
  | .halt => execHalt s
  | .addAR r => execAddAR r s
  | .addAMemHl => execAddAMemHl s
  | .addAN n => execAddAN n s
  | .adcAR r => execAdcAR r s
  | .adcAMemHl => execAdcAMemHl s
  | .adcAN n => execAdcAN n s
  | .subR r => execSubR r s
  | .subMemHl => execSubMemHl s
  | .subN n => execSubN n s
  | .sbcAR r => execSbcAR r s
  | .sbcAMemHl => execSbcAMemHl s
  | .sbcAN n => execSbcAN n s
  | .andR r => execAndR r s
  | .andMemHl => execAndMemHl s
  | .andN n => execAndN n s
  | .xorR r => execXorR r s
  | .xorMemHl => execXorMemHl s
  | .xorN n => execXorN n s
  | .orR r => execOrR r s
  | .orMemHl => execOrMemHl s
  | .orN n => execOrN n s
  | .cpR r => execCpR r s
  | .cpMemHl => execCpMemHl s
  | .cpN n => execCpN n s
  | .retCc cc => execRetCc cc s
  | .popQq qq => execPopQq qq s
  | .ret => execRet s
  | .exx => execExx s
  | .jpHl => execJpHl s
  | .ldSpHl => execLdSpHl s
  | .jpCcNn cc nn => execJpCcNn cc nn s
  | .jpNn nn => execJpNn nn s
  | .prefixCb => .refused .nestedPrefixRow
  | .outNA n => execOutNA n s
  | .inAN n => execInAN n s
  | .exMemSpHl => execExMemSpHl s
  | .exDeHl => execExDeHl s
  | .di => execDi s
  | .ei => execEi s
  | .callCcNn cc nn => execCallCcNn cc nn s
  | .pushQq qq => execPushQq qq s
  | .callNn nn => execCallNn nn s
  | .prefixDd => .refused .nestedPrefixRow
  | .prefixEd => .refused .nestedPrefixRow
  | .prefixFd => .refused .nestedPrefixRow
  | .rst y => execRst y s
  | .rlcR r => execRlcR r s
  | .rlcMemHl => execRlcMemHl s
  | .rrcR r => execRrcR r s
  | .rrcMemHl => execRrcMemHl s
  | .rlR r => execRlR r s
  | .rlMemHl => execRlMemHl s
  | .rrR r => execRrR r s
  | .rrMemHl => execRrMemHl s
  | .slaR r => execSlaR r s
  | .slaMemHl => execSlaMemHl s
  | .sraR r => execSraR r s
  | .sraMemHl => execSraMemHl s
  | .sllR r => execSllR r s
  | .sllMemHl => execSllMemHl s
  | .srlR r => execSrlR r s
  | .srlMemHl => execSrlMemHl s
  | .bitR b r => execBitR b r s
  | .bitMemHl b => execBitMemHl b s
  | .resR b r => execResR b r s
  | .resMemHl b => execResMemHl b s
  | .setR b r => execSetR b r s
  | .setMemHl b => execSetMemHl b s
  | .inRC r => execInRC r s
  | .inC => execInC s
  | .outCR r => execOutCR r s
  | .outC0 => execOutC0 s
  | .sbcHlSs ss => execSbcHlSs ss s
  | .adcHlSs ss => execAdcHlSs ss s
  | .ldMemNnDd nn dd => execLdMemNnDd nn dd s
  | .ldDdMemNn dd nn => execLdDdMemNn dd nn s
  | .neg => execNeg s
  | .negMirror y => execNegMirror y s
  | .retn => execRetn s
  | .reti => execReti s
  | .retnMirror y => execRetnMirror y s
  | .im0 => execIm0 s
  | .im1 => execIm1 s
  | .im2 => execIm2 s
  | .im0Mirror y => execIm0Mirror y s
  | .im1Mirror => execIm1Mirror s
  | .im2Mirror => execIm2Mirror s
  | .ldIA => execLdIA s
  | .ldRA => execLdRA s
  | .ldAI => execLdAI s
  | .ldAR => execLdAR s
  | .rrd => execRrd s
  | .rld => execRld s
  | .ldi => execLdi s
  | .cpi => execCpi s
  | .ini => execIni s
  | .outi => execOuti s
  | .ldd => execLdd s
  | .cpd => execCpd s
  | .ind => execInd s
  | .outd => execOutd s
  | .ldir => execLdir s
  | .cpir => execCpir s
  | .inir => execInir s
  | .otir => execOtir s
  | .lddr => execLddr s
  | .cpdr => execCpdr s
  | .indr => execIndr s
  | .otdr => execOtdr s
  | .nopEdX0 y z => execNopEdX0 y z s
  | .nopEd77 q => execNopEd77 q s
  | .nopEd80 p q z => execNopEd80 p q z s
  | .nopEdA4 p q z => execNopEdA4 p q z s
  | .nopEdX3 y z => execNopEdX3 y z s
  | .addIxPp p => execAddIxPp p s
  | .ldIxNn nn => execLdIxNn nn s
  | .ldMemNnIx nn => execLdMemNnIx nn s
  | .incIx => execIncIx s
  | .ldIxMemNn nn => execLdIxMemNn nn s
  | .decIx => execDecIx s
  | .incIxHalf h => execIncIxHalf h s
  | .decIxHalf h => execDecIxHalf h s
  | .ldIxHalfN h n => execLdIxHalfN h n s
  | .incMemIx d => execIncMemIx d s
  | .decMemIx d => execDecMemIx d s
  | .ldMemIxN d n => execLdMemIxN d n s
  | .ldRMemIx r d => execLdRMemIx r d s
  | .ldMemIxR d r => execLdMemIxR d r s
  | .ldPPIx dst src => execLdPPIx dst src s
  | .addAIxHalf h => execAddAIxHalf h s
  | .addAMemIx d => execAddAMemIx d s
  | .adcAIxHalf h => execAdcAIxHalf h s
  | .adcAMemIx d => execAdcAMemIx d s
  | .subIxHalf h => execSubIxHalf h s
  | .subMemIx d => execSubMemIx d s
  | .sbcAIxHalf h => execSbcAIxHalf h s
  | .sbcAMemIx d => execSbcAMemIx d s
  | .andIxHalf h => execAndIxHalf h s
  | .andMemIx d => execAndMemIx d s
  | .xorIxHalf h => execXorIxHalf h s
  | .xorMemIx d => execXorMemIx d s
  | .orIxHalf h => execOrIxHalf h s
  | .orMemIx d => execOrMemIx d s
  | .cpIxHalf h => execCpIxHalf h s
  | .cpMemIx d => execCpMemIx d s
  | .prefixDdCb => .refused .nestedPrefixRow
  | .popIx => execPopIx s
  | .exMemSpIx => execExMemSpIx s
  | .pushIx => execPushIx s
  | .jpIx => execJpIx s
  | .ldSpIx => execLdSpIx s
  | .noniDd => execNoniDd s
  | .rlcMemIx d => execRlcMemIx d s
  | .rlcMemIxR d r => execRlcMemIxR d r s
  | .rrcMemIx d => execRrcMemIx d s
  | .rrcMemIxR d r => execRrcMemIxR d r s
  | .rlMemIx d => execRlMemIx d s
  | .rlMemIxR d r => execRlMemIxR d r s
  | .rrMemIx d => execRrMemIx d s
  | .rrMemIxR d r => execRrMemIxR d r s
  | .slaMemIx d => execSlaMemIx d s
  | .slaMemIxR d r => execSlaMemIxR d r s
  | .sraMemIx d => execSraMemIx d s
  | .sraMemIxR d r => execSraMemIxR d r s
  | .sllMemIx d => execSllMemIx d s
  | .sllMemIxR d r => execSllMemIxR d r s
  | .srlMemIx d => execSrlMemIx d s
  | .srlMemIxR d r => execSrlMemIxR d r s
  | .bitMemIx b d => execBitMemIx b d s
  | .bitMemIxZ b d r => execBitMemIxZ b d r s
  | .resMemIx b d => execResMemIx b d s
  | .resMemIxR b d r => execResMemIxR b d r s
  | .setMemIx b d => execSetMemIx b d s
  | .setMemIxR b d r => execSetMemIxR b d r s
  | .addIyRr p => execAddIyRr p s
  | .ldIyNn nn => execLdIyNn nn s
  | .ldMemNnIy nn => execLdMemNnIy nn s
  | .incIy => execIncIy s
  | .ldIyMemNn nn => execLdIyMemNn nn s
  | .decIy => execDecIy s
  | .incIyHalf h => execIncIyHalf h s
  | .decIyHalf h => execDecIyHalf h s
  | .ldIyHalfN h n => execLdIyHalfN h n s
  | .incMemIy d => execIncMemIy d s
  | .decMemIy d => execDecMemIy d s
  | .ldMemIyN d n => execLdMemIyN d n s
  | .ldRMemIy r d => execLdRMemIy r d s
  | .ldMemIyR d r => execLdMemIyR d r s
  | .ldPPIy dst src => execLdPPIy dst src s
  | .addAIyHalf h => execAddAIyHalf h s
  | .addAMemIy d => execAddAMemIy d s
  | .adcAIyHalf h => execAdcAIyHalf h s
  | .adcAMemIy d => execAdcAMemIy d s
  | .subIyHalf h => execSubIyHalf h s
  | .subMemIy d => execSubMemIy d s
  | .sbcAIyHalf h => execSbcAIyHalf h s
  | .sbcAMemIy d => execSbcAMemIy d s
  | .andIyHalf h => execAndIyHalf h s
  | .andMemIy d => execAndMemIy d s
  | .xorIyHalf h => execXorIyHalf h s
  | .xorMemIy d => execXorMemIy d s
  | .orIyHalf h => execOrIyHalf h s
  | .orMemIy d => execOrMemIy d s
  | .cpIyHalf h => execCpIyHalf h s
  | .cpMemIy d => execCpMemIy d s
  | .prefixFdCb => .refused .nestedPrefixRow
  | .popIy => execPopIy s
  | .exMemSpIy => execExMemSpIy s
  | .pushIy => execPushIy s
  | .jpIy => execJpIy s
  | .ldSpIy => execLdSpIy s
  | .noniFd => execNoniFd s
  | .rlcMemIy d => execRlcMemIy d s
  | .rlcMemIyR d r => execRlcMemIyR d r s
  | .rrcMemIy d => execRrcMemIy d s
  | .rrcMemIyR d r => execRrcMemIyR d r s
  | .rlMemIy d => execRlMemIy d s
  | .rlMemIyR d r => execRlMemIyR d r s
  | .rrMemIy d => execRrMemIy d s
  | .rrMemIyR d r => execRrMemIyR d r s
  | .slaMemIy d => execSlaMemIy d s
  | .slaMemIyR d r => execSlaMemIyR d r s
  | .sraMemIy d => execSraMemIy d s
  | .sraMemIyR d r => execSraMemIyR d r s
  | .sllMemIy d => execSllMemIy d s
  | .sllMemIyR d r => execSllMemIyR d r s
  | .srlMemIy d => execSrlMemIy d s
  | .srlMemIyR d r => execSrlMemIyR d r s
  | .bitMemIy b d => execBitMemIy b d s
  | .bitMemIyZ b d r => execBitMemIyZ b d r s
  | .resMemIy b d => execResMemIy b d s
  | .resMemIyR b d r => execResMemIyR b d r s
  | .setMemIy b d => execSetMemIy b d s
  | .setMemIyR b d r => execSetMemIyR b d r s

/-- Decoding continued after the one prefix byte `b0`, already fetched: the rest of the instruction is fetched, then its entry runs
(30_encoding R141). After DD or FD a byte outside `IDX_OPS` is not consumed (R152). -/
def State.followOne (s : State) (b0 : Byte) : Out :=
  let b1 := s.codeByte 0
  let s1 := (s.advancePc (windowLength b0 b1 - 1)).bumpR (windowM1 b0 b1 - 1)
  runEntry (decodeWindow b0 b1 (s.codeByte 1) (s.codeByte 2)) s1

/-- Decoding continued after the two prefix bytes `b0` and CB, already fetched: the displacement and the opcode are fetched without a
further M1 cycle, then the entry runs (30_encoding R141, R153). -/
def State.followTwo (s : State) (b0 : Byte) : Out :=
  runEntry (decodeWindow b0 0xCB (s.codeByte 0) (s.codeByte 1)) (s.advancePc 2)

/-- `(prefix CB)` (R141). -/
def execPrefixCb (s : State) : Out := s.followOne 0xCB

/-- `(prefix DD)` (R141). -/
def execPrefixDd (s : State) : Out := s.followOne 0xDD

/-- `(prefix ED)` (R141). -/
def execPrefixEd (s : State) : Out := s.followOne 0xED

/-- `(prefix FD)` (R141). -/
def execPrefixFd (s : State) : Out := s.followOne 0xFD

/-- `(prefix DD CB)` (R153). -/
def execPrefixDdCb (s : State) : Out := s.followTwo 0xDD

/-- `(prefix FD CB)` (R153). -/
def execPrefixFdCb (s : State) : Out := s.followTwo 0xFD

end Sys2Proof.Machine
end

