-- ==== Sys2Proof/Machine/Dispatch.lean ====
section
/-! DEFINITION. One arm per constructor of `Instr`: what the instruction does. -/

namespace Sys2Proof.Machine

def exec (i : Instr) (s : State) : Host.Outcome State Fault Refusal :=
  match i with
  | .nop => Sys2Proof.Machine.execNop s
  | .exAfAf => Sys2Proof.Machine.execExAfAf s
  | .djnz e => Sys2Proof.Machine.execDjnz e s
  | .jr e => Sys2Proof.Machine.execJr e s
  | .jrNz e => Sys2Proof.Machine.execJrNz e s
  | .jrZ e => Sys2Proof.Machine.execJrZ e s
  | .jrNc e => Sys2Proof.Machine.execJrNc e s
  | .jrC e => Sys2Proof.Machine.execJrC e s
  | .ldDdNn dd nn => Sys2Proof.Machine.execLdDdNn dd nn s
  | .addHlSs ss => Sys2Proof.Machine.execAddHlSs ss s
  | .ldMemBcA => Sys2Proof.Machine.execLdMemBcA s
  | .ldAMemBc => Sys2Proof.Machine.execLdAMemBc s
  | .ldMemDeA => Sys2Proof.Machine.execLdMemDeA s
  | .ldAMemDe => Sys2Proof.Machine.execLdAMemDe s
  | .ldMemNnHl nn => Sys2Proof.Machine.execLdMemNnHl nn s
  | .ldHlMemNn nn => Sys2Proof.Machine.execLdHlMemNn nn s
  | .ldMemNnA nn => Sys2Proof.Machine.execLdMemNnA nn s
  | .ldAMemNn nn => Sys2Proof.Machine.execLdAMemNn nn s
  | .incSs ss => Sys2Proof.Machine.execIncSs ss s
  | .decSs ss => Sys2Proof.Machine.execDecSs ss s
  | .incR r => Sys2Proof.Machine.execIncR r s
  | .incMemHl => Sys2Proof.Machine.execIncMemHl s
  | .decR r => Sys2Proof.Machine.execDecR r s
  | .decMemHl => Sys2Proof.Machine.execDecMemHl s
  | .ldRN r n => Sys2Proof.Machine.execLdRN r n s
  | .ldMemHlN n => Sys2Proof.Machine.execLdMemHlN n s
  | .rlca => Sys2Proof.Machine.execRlca s
  | .rrca => Sys2Proof.Machine.execRrca s
  | .rla => Sys2Proof.Machine.execRla s
  | .rra => Sys2Proof.Machine.execRra s
  | .daa => Sys2Proof.Machine.execDaa s
  | .cpl => Sys2Proof.Machine.execCpl s
  | .scf => Sys2Proof.Machine.execScf s
  | .ccf => Sys2Proof.Machine.execCcf s
  | .ldRR dst src => Sys2Proof.Machine.execLdRR dst src s
  | .ldRMemHl r => Sys2Proof.Machine.execLdRMemHl r s
  | .ldMemHlR r => Sys2Proof.Machine.execLdMemHlR r s
  | .halt => Sys2Proof.Machine.execHalt s
  | .addAR r => Sys2Proof.Machine.execAddAR r s
  | .addAMemHl => Sys2Proof.Machine.execAddAMemHl s
  | .addAN n => Sys2Proof.Machine.execAddAN n s
  | .adcAR r => Sys2Proof.Machine.execAdcAR r s
  | .adcAMemHl => Sys2Proof.Machine.execAdcAMemHl s
  | .adcAN n => Sys2Proof.Machine.execAdcAN n s
  | .subR r => Sys2Proof.Machine.execSubR r s
  | .subMemHl => Sys2Proof.Machine.execSubMemHl s
  | .subN n => Sys2Proof.Machine.execSubN n s
  | .sbcAR r => Sys2Proof.Machine.execSbcAR r s
  | .sbcAMemHl => Sys2Proof.Machine.execSbcAMemHl s
  | .sbcAN n => Sys2Proof.Machine.execSbcAN n s
  | .andR r => Sys2Proof.Machine.execAndR r s
  | .andMemHl => Sys2Proof.Machine.execAndMemHl s
  | .andN n => Sys2Proof.Machine.execAndN n s
  | .xorR r => Sys2Proof.Machine.execXorR r s
  | .xorMemHl => Sys2Proof.Machine.execXorMemHl s
  | .xorN n => Sys2Proof.Machine.execXorN n s
  | .orR r => Sys2Proof.Machine.execOrR r s
  | .orMemHl => Sys2Proof.Machine.execOrMemHl s
  | .orN n => Sys2Proof.Machine.execOrN n s
  | .cpR r => Sys2Proof.Machine.execCpR r s
  | .cpMemHl => Sys2Proof.Machine.execCpMemHl s
  | .cpN n => Sys2Proof.Machine.execCpN n s
  | .retCc cc => Sys2Proof.Machine.execRetCc cc s
  | .popQq qq => Sys2Proof.Machine.execPopQq qq s
  | .ret => Sys2Proof.Machine.execRet s
  | .exx => Sys2Proof.Machine.execExx s
  | .jpHl => Sys2Proof.Machine.execJpHl s
  | .ldSpHl => Sys2Proof.Machine.execLdSpHl s
  | .jpCcNn cc nn => Sys2Proof.Machine.execJpCcNn cc nn s
  | .jpNn nn => Sys2Proof.Machine.execJpNn nn s
  | .prefixCb => Sys2Proof.Machine.execPrefixCb s
  | .outNA n => Sys2Proof.Machine.execOutNA n s
  | .inAN n => Sys2Proof.Machine.execInAN n s
  | .exMemSpHl => Sys2Proof.Machine.execExMemSpHl s
  | .exDeHl => Sys2Proof.Machine.execExDeHl s
  | .di => Sys2Proof.Machine.execDi s
  | .ei => Sys2Proof.Machine.execEi s
  | .callCcNn cc nn => Sys2Proof.Machine.execCallCcNn cc nn s
  | .pushQq qq => Sys2Proof.Machine.execPushQq qq s
  | .callNn nn => Sys2Proof.Machine.execCallNn nn s
  | .prefixDd => Sys2Proof.Machine.execPrefixDd s
  | .prefixEd => Sys2Proof.Machine.execPrefixEd s
  | .prefixFd => Sys2Proof.Machine.execPrefixFd s
  | .rst y => Sys2Proof.Machine.execRst y s
  | .rlcR r => Sys2Proof.Machine.execRlcR r s
  | .rlcMemHl => Sys2Proof.Machine.execRlcMemHl s
  | .rrcR r => Sys2Proof.Machine.execRrcR r s
  | .rrcMemHl => Sys2Proof.Machine.execRrcMemHl s
  | .rlR r => Sys2Proof.Machine.execRlR r s
  | .rlMemHl => Sys2Proof.Machine.execRlMemHl s
  | .rrR r => Sys2Proof.Machine.execRrR r s
  | .rrMemHl => Sys2Proof.Machine.execRrMemHl s
  | .slaR r => Sys2Proof.Machine.execSlaR r s
  | .slaMemHl => Sys2Proof.Machine.execSlaMemHl s
  | .sraR r => Sys2Proof.Machine.execSraR r s
  | .sraMemHl => Sys2Proof.Machine.execSraMemHl s
  | .sllR r => Sys2Proof.Machine.execSllR r s
  | .sllMemHl => Sys2Proof.Machine.execSllMemHl s
  | .srlR r => Sys2Proof.Machine.execSrlR r s
  | .srlMemHl => Sys2Proof.Machine.execSrlMemHl s
  | .bitR b r => Sys2Proof.Machine.execBitR b r s
  | .bitMemHl b => Sys2Proof.Machine.execBitMemHl b s
  | .resR b r => Sys2Proof.Machine.execResR b r s
  | .resMemHl b => Sys2Proof.Machine.execResMemHl b s
  | .setR b r => Sys2Proof.Machine.execSetR b r s
  | .setMemHl b => Sys2Proof.Machine.execSetMemHl b s
  | .inRC r => Sys2Proof.Machine.execInRC r s
  | .inC => Sys2Proof.Machine.execInC s
  | .outCR r => Sys2Proof.Machine.execOutCR r s
  | .outC0 => Sys2Proof.Machine.execOutC0 s
  | .sbcHlSs ss => Sys2Proof.Machine.execSbcHlSs ss s
  | .adcHlSs ss => Sys2Proof.Machine.execAdcHlSs ss s
  | .ldMemNnDd nn dd => Sys2Proof.Machine.execLdMemNnDd nn dd s
  | .ldDdMemNn dd nn => Sys2Proof.Machine.execLdDdMemNn dd nn s
  | .neg => Sys2Proof.Machine.execNeg s
  | .negMirror y => Sys2Proof.Machine.execNegMirror y s
  | .retn => Sys2Proof.Machine.execRetn s
  | .reti => Sys2Proof.Machine.execReti s
  | .retnMirror y => Sys2Proof.Machine.execRetnMirror y s
  | .im0 => Sys2Proof.Machine.execIm0 s
  | .im1 => Sys2Proof.Machine.execIm1 s
  | .im2 => Sys2Proof.Machine.execIm2 s
  | .im0Mirror y => Sys2Proof.Machine.execIm0Mirror y s
  | .im1Mirror => Sys2Proof.Machine.execIm1Mirror s
  | .im2Mirror => Sys2Proof.Machine.execIm2Mirror s
  | .ldIA => Sys2Proof.Machine.execLdIA s
  | .ldRA => Sys2Proof.Machine.execLdRA s
  | .ldAI => Sys2Proof.Machine.execLdAI s
  | .ldAR => Sys2Proof.Machine.execLdAR s
  | .rrd => Sys2Proof.Machine.execRrd s
  | .rld => Sys2Proof.Machine.execRld s
  | .ldi => Sys2Proof.Machine.execLdi s
  | .cpi => Sys2Proof.Machine.execCpi s
  | .ini => Sys2Proof.Machine.execIni s
  | .outi => Sys2Proof.Machine.execOuti s
  | .ldd => Sys2Proof.Machine.execLdd s
  | .cpd => Sys2Proof.Machine.execCpd s
  | .ind => Sys2Proof.Machine.execInd s
  | .outd => Sys2Proof.Machine.execOutd s
  | .ldir => Sys2Proof.Machine.execLdir s
  | .cpir => Sys2Proof.Machine.execCpir s
  | .inir => Sys2Proof.Machine.execInir s
  | .otir => Sys2Proof.Machine.execOtir s
  | .lddr => Sys2Proof.Machine.execLddr s
  | .cpdr => Sys2Proof.Machine.execCpdr s
  | .indr => Sys2Proof.Machine.execIndr s
  | .otdr => Sys2Proof.Machine.execOtdr s
  | .nopEdX0 y z => Sys2Proof.Machine.execNopEdX0 y z s
  | .nopEd77 q => Sys2Proof.Machine.execNopEd77 q s
  | .nopEd80 p q z => Sys2Proof.Machine.execNopEd80 p q z s
  | .nopEdA4 p q z => Sys2Proof.Machine.execNopEdA4 p q z s
  | .nopEdX3 y z => Sys2Proof.Machine.execNopEdX3 y z s
  | .addIxPp p => Sys2Proof.Machine.execAddIxPp p s
  | .ldIxNn nn => Sys2Proof.Machine.execLdIxNn nn s
  | .ldMemNnIx nn => Sys2Proof.Machine.execLdMemNnIx nn s
  | .incIx => Sys2Proof.Machine.execIncIx s
  | .ldIxMemNn nn => Sys2Proof.Machine.execLdIxMemNn nn s
  | .decIx => Sys2Proof.Machine.execDecIx s
  | .incIxHalf h => Sys2Proof.Machine.execIncIxHalf h s
  | .decIxHalf h => Sys2Proof.Machine.execDecIxHalf h s
  | .ldIxHalfN h n => Sys2Proof.Machine.execLdIxHalfN h n s
  | .incMemIx d => Sys2Proof.Machine.execIncMemIx d s
  | .decMemIx d => Sys2Proof.Machine.execDecMemIx d s
  | .ldMemIxN d n => Sys2Proof.Machine.execLdMemIxN d n s
  | .ldRMemIx r d => Sys2Proof.Machine.execLdRMemIx r d s
  | .ldMemIxR d r => Sys2Proof.Machine.execLdMemIxR d r s
  | .ldPPIx dst src => Sys2Proof.Machine.execLdPPIx dst src s
  | .addAIxHalf h => Sys2Proof.Machine.execAddAIxHalf h s
  | .addAMemIx d => Sys2Proof.Machine.execAddAMemIx d s
  | .adcAIxHalf h => Sys2Proof.Machine.execAdcAIxHalf h s
  | .adcAMemIx d => Sys2Proof.Machine.execAdcAMemIx d s
  | .subIxHalf h => Sys2Proof.Machine.execSubIxHalf h s
  | .subMemIx d => Sys2Proof.Machine.execSubMemIx d s
  | .sbcAIxHalf h => Sys2Proof.Machine.execSbcAIxHalf h s
  | .sbcAMemIx d => Sys2Proof.Machine.execSbcAMemIx d s
  | .andIxHalf h => Sys2Proof.Machine.execAndIxHalf h s
  | .andMemIx d => Sys2Proof.Machine.execAndMemIx d s
  | .xorIxHalf h => Sys2Proof.Machine.execXorIxHalf h s
  | .xorMemIx d => Sys2Proof.Machine.execXorMemIx d s
  | .orIxHalf h => Sys2Proof.Machine.execOrIxHalf h s
  | .orMemIx d => Sys2Proof.Machine.execOrMemIx d s
  | .cpIxHalf h => Sys2Proof.Machine.execCpIxHalf h s
  | .cpMemIx d => Sys2Proof.Machine.execCpMemIx d s
  | .prefixDdCb => Sys2Proof.Machine.execPrefixDdCb s
  | .popIx => Sys2Proof.Machine.execPopIx s
  | .exMemSpIx => Sys2Proof.Machine.execExMemSpIx s
  | .pushIx => Sys2Proof.Machine.execPushIx s
  | .jpIx => Sys2Proof.Machine.execJpIx s
  | .ldSpIx => Sys2Proof.Machine.execLdSpIx s
  | .noniDd => Sys2Proof.Machine.execNoniDd s
  | .rlcMemIx d => Sys2Proof.Machine.execRlcMemIx d s
  | .rlcMemIxR d r => Sys2Proof.Machine.execRlcMemIxR d r s
  | .rrcMemIx d => Sys2Proof.Machine.execRrcMemIx d s
  | .rrcMemIxR d r => Sys2Proof.Machine.execRrcMemIxR d r s
  | .rlMemIx d => Sys2Proof.Machine.execRlMemIx d s
  | .rlMemIxR d r => Sys2Proof.Machine.execRlMemIxR d r s
  | .rrMemIx d => Sys2Proof.Machine.execRrMemIx d s
  | .rrMemIxR d r => Sys2Proof.Machine.execRrMemIxR d r s
  | .slaMemIx d => Sys2Proof.Machine.execSlaMemIx d s
  | .slaMemIxR d r => Sys2Proof.Machine.execSlaMemIxR d r s
  | .sraMemIx d => Sys2Proof.Machine.execSraMemIx d s
  | .sraMemIxR d r => Sys2Proof.Machine.execSraMemIxR d r s
  | .sllMemIx d => Sys2Proof.Machine.execSllMemIx d s
  | .sllMemIxR d r => Sys2Proof.Machine.execSllMemIxR d r s
  | .srlMemIx d => Sys2Proof.Machine.execSrlMemIx d s
  | .srlMemIxR d r => Sys2Proof.Machine.execSrlMemIxR d r s
  | .bitMemIx b d => Sys2Proof.Machine.execBitMemIx b d s
  | .bitMemIxZ b d r => Sys2Proof.Machine.execBitMemIxZ b d r s
  | .resMemIx b d => Sys2Proof.Machine.execResMemIx b d s
  | .resMemIxR b d r => Sys2Proof.Machine.execResMemIxR b d r s
  | .setMemIx b d => Sys2Proof.Machine.execSetMemIx b d s
  | .setMemIxR b d r => Sys2Proof.Machine.execSetMemIxR b d r s
  | .addIyRr p => Sys2Proof.Machine.execAddIyRr p s
  | .ldIyNn nn => Sys2Proof.Machine.execLdIyNn nn s
  | .ldMemNnIy nn => Sys2Proof.Machine.execLdMemNnIy nn s
  | .incIy => Sys2Proof.Machine.execIncIy s
  | .ldIyMemNn nn => Sys2Proof.Machine.execLdIyMemNn nn s
  | .decIy => Sys2Proof.Machine.execDecIy s
  | .incIyHalf h => Sys2Proof.Machine.execIncIyHalf h s
  | .decIyHalf h => Sys2Proof.Machine.execDecIyHalf h s
  | .ldIyHalfN h n => Sys2Proof.Machine.execLdIyHalfN h n s
  | .incMemIy d => Sys2Proof.Machine.execIncMemIy d s
  | .decMemIy d => Sys2Proof.Machine.execDecMemIy d s
  | .ldMemIyN d n => Sys2Proof.Machine.execLdMemIyN d n s
  | .ldRMemIy r d => Sys2Proof.Machine.execLdRMemIy r d s
  | .ldMemIyR d r => Sys2Proof.Machine.execLdMemIyR d r s
  | .ldPPIy dst src => Sys2Proof.Machine.execLdPPIy dst src s
  | .addAIyHalf h => Sys2Proof.Machine.execAddAIyHalf h s
  | .addAMemIy d => Sys2Proof.Machine.execAddAMemIy d s
  | .adcAIyHalf h => Sys2Proof.Machine.execAdcAIyHalf h s
  | .adcAMemIy d => Sys2Proof.Machine.execAdcAMemIy d s
  | .subIyHalf h => Sys2Proof.Machine.execSubIyHalf h s
  | .subMemIy d => Sys2Proof.Machine.execSubMemIy d s
  | .sbcAIyHalf h => Sys2Proof.Machine.execSbcAIyHalf h s
  | .sbcAMemIy d => Sys2Proof.Machine.execSbcAMemIy d s
  | .andIyHalf h => Sys2Proof.Machine.execAndIyHalf h s
  | .andMemIy d => Sys2Proof.Machine.execAndMemIy d s
  | .xorIyHalf h => Sys2Proof.Machine.execXorIyHalf h s
  | .xorMemIy d => Sys2Proof.Machine.execXorMemIy d s
  | .orIyHalf h => Sys2Proof.Machine.execOrIyHalf h s
  | .orMemIy d => Sys2Proof.Machine.execOrMemIy d s
  | .cpIyHalf h => Sys2Proof.Machine.execCpIyHalf h s
  | .cpMemIy d => Sys2Proof.Machine.execCpMemIy d s
  | .prefixFdCb => Sys2Proof.Machine.execPrefixFdCb s
  | .popIy => Sys2Proof.Machine.execPopIy s
  | .exMemSpIy => Sys2Proof.Machine.execExMemSpIy s
  | .pushIy => Sys2Proof.Machine.execPushIy s
  | .jpIy => Sys2Proof.Machine.execJpIy s
  | .ldSpIy => Sys2Proof.Machine.execLdSpIy s
  | .noniFd => Sys2Proof.Machine.execNoniFd s
  | .rlcMemIy d => Sys2Proof.Machine.execRlcMemIy d s
  | .rlcMemIyR d r => Sys2Proof.Machine.execRlcMemIyR d r s
  | .rrcMemIy d => Sys2Proof.Machine.execRrcMemIy d s
  | .rrcMemIyR d r => Sys2Proof.Machine.execRrcMemIyR d r s
  | .rlMemIy d => Sys2Proof.Machine.execRlMemIy d s
  | .rlMemIyR d r => Sys2Proof.Machine.execRlMemIyR d r s
  | .rrMemIy d => Sys2Proof.Machine.execRrMemIy d s
  | .rrMemIyR d r => Sys2Proof.Machine.execRrMemIyR d r s
  | .slaMemIy d => Sys2Proof.Machine.execSlaMemIy d s
  | .slaMemIyR d r => Sys2Proof.Machine.execSlaMemIyR d r s
  | .sraMemIy d => Sys2Proof.Machine.execSraMemIy d s
  | .sraMemIyR d r => Sys2Proof.Machine.execSraMemIyR d r s
  | .sllMemIy d => Sys2Proof.Machine.execSllMemIy d s
  | .sllMemIyR d r => Sys2Proof.Machine.execSllMemIyR d r s
  | .srlMemIy d => Sys2Proof.Machine.execSrlMemIy d s
  | .srlMemIyR d r => Sys2Proof.Machine.execSrlMemIyR d r s
  | .bitMemIy b d => Sys2Proof.Machine.execBitMemIy b d s
  | .bitMemIyZ b d r => Sys2Proof.Machine.execBitMemIyZ b d r s
  | .resMemIy b d => Sys2Proof.Machine.execResMemIy b d s
  | .resMemIyR b d r => Sys2Proof.Machine.execResMemIyR b d r s
  | .setMemIy b d => Sys2Proof.Machine.execSetMemIy b d s
  | .setMemIyR b d r => Sys2Proof.Machine.execSetMemIyR b d r s

end Sys2Proof.Machine
end

