-- ==== Sys2Proof/Machine/Interrupt.lean ====
section
/-! DEFINITION. The interrupt unit, consulted after every CPU step (60_exceptions R603, R610 to R616). -/

namespace Sys2Proof.Machine

/-- `NmiEntry()` (60_exceptions R611). -/
def State.nmiEntry (s : State) : State :=
  State.takeInterrupt { s with cpu.nmiPending := false } s.cfg.nmiVector s.cfg.nmiCost

/-- Whether a bus byte has the form `11 ttt 111`, the only supplied instruction the spec supports (60_exceptions R613). -/
def busByteIsRst (b : Byte) : Bool := fieldX b == 3 && fieldZ b == 7

/-- `MaskableEntry()` by interrupt mode (60_exceptions R612 to R615). The vector of mode 2 is read before the push. Mode 0 with a bus
byte that is no RST is refused, as R613 says (log 12). -/
def State.maskableEntry (s : State) : Out :=
  let s1 := { s with cpu.iff2 := false }
  match s.cpu.im with
  | .im0 =>
    if busByteIsRst s.cfg.intBusByte then
      .next (s1.takeInterrupt (wordOf 0 (s.cfg.intBusByte &&& 0x38)) s.cfg.im0Cost)
    else .refused (.mode0BusByteNotRst s.cfg.intBusByte)
  | .im1 => .next (s1.takeInterrupt s.cfg.im1Vector s.cfg.im1Cost)
  | .im2 => .next (s1.takeInterrupt (s.memRead16 (wordOf s.cpu.i s.cfg.intBusByte)) s.cfg.im2Cost)

/-- `InterruptResolve()` (60_exceptions R610), after every instruction, a return from a handler among them. DESIGN CHOICE: a handler that
returns unacknowledged is re-entered right after the return, as R610, R617 and vector INT-11 have it, and not after one further
instruction, as 70_reset_and_hazards R716 says in passing (log 27). -/
def State.interruptResolve (s : State) : Out :=
  if s.cpu.intInhibit then .next { s with cpu.intInhibit := false }
  else if s.cpu.nmiPending then .next s.nmiEntry
  else if s.cpu.iff1 && s.vdp.intLine then s.maskableEntry
  else .next s

end Sys2Proof.Machine
end

