-- ==== Sys2Proof/Machine/Scheduler.lean ====
section
/-! DEFINITION. `CpuStep` and whose turn it is (60_exceptions R650, R651). The scheduler's loop state is wholly in `v`, `cycles` and
`vdp_cycles` (R602), so one step of the machine is one CPU step while the CPU is behind its target, else one line step (log 10). -/

namespace Sys2Proof.Machine

/-- `target`, `floor(vdp_cycles * 2 / 3)` (60_exceptions R651). -/
def State.target (s : State) : Nat := s.vdp.vdpCycles * 2 / 3

/-- Whether the CPU is behind its target, so that its step is next (60_exceptions R651). -/
def State.cpuTurn (s : State) : Bool := decide (s.cpu.cycles < s.target)

/-- The halted tick (44_general_control R366). -/
def State.haltedTick (s : State) : State := (s.bumpR 1).addCycles 4

/-- `InstructionStep()` (30_encoding R141). -/
def State.instructionStep (s : State) : Out := exec s.fetched s.afterFetch

/-- `CpuStep()` (60_exceptions R650). -/
def State.cpuStep (s : State) : Out :=
  bindOut (if s.cpu.halted then .next s.haltedTick else s.instructionStep) State.interruptResolve

end Sys2Proof.Machine
end

