-- ==== Sys2Proof/Machine/Step.lean ====
section
/-! DEFINITION. One step of the machine, and the placing of an instruction where it is fetched next. -/

namespace Sys2Proof.Machine

/-- One step of the whole machine: a CPU step while the CPU is behind its target, else one line of the VDP (60_exceptions R651; log 10). -/
def step (s : State) : Out := if s.cpuTurn then s.cpuStep else .next s.vdpLineStep

/-- The instruction of `decodeTableWord nbits w` placed at PC, zeros above `nbits`: its four bytes stored in the physical pages the
logical addresses resolve to, the CPU not halted, and, where the CPU has no cycles left, just enough VDP cycles that the next step
is the CPU's (log 10). -/
def State.withFetchWord (s : State) (nbits w : Nat) : State :=
  let s1 := (((s.placeByte 0 (tableByte nbits w 0)).placeByte 1 (tableByte nbits w 1)).placeByte 2
    (tableByte nbits w 2)).placeByte 3 (tableByte nbits w 3)
  let s2 := { s1 with cpu.halted := false }
  if s2.cpuTurn then s2 else { s2 with vdp.vdpCycles := (3 * (s.cpu.cycles + 1) + 1) / 2 }

end Sys2Proof.Machine
end

