-- ==== Sys2Proof/Machine/Frame.lean ====
section
/-! DEFINITION. `RunFrame` (60_exceptions R651), by structural recursion on fuel that always suffices: a CPU step adds at least 4 cycles
and a frame is at most `TOTAL_LINES` lines (R652; log 22). -/

namespace Sys2Proof.Machine

/-- `while cycles < target: CpuStep()` (60_exceptions R651). -/
def catchUp : Nat → State → Out
  | 0, s => .next s
  | fuel + 1, s => if s.cpuTurn then bindOut s.cpuStep (catchUp fuel) else .next s

/-- One pass of the scheduler's loop: a line step, then the CPU caught up (60_exceptions R651). -/
def State.runLine (s : State) : Out :=
  let t := s.vdpLineStep
  catchUp (t.target - t.cpu.cycles) t

/-- The passes of the scheduler's loop until `v = 0` (60_exceptions R651). -/
def frameLines : Nat → State → Out
  | 0, s => .next s
  | n + 1, s => bindOut s.runLine (fun t => if t.vdp.v = 0 then .next t else frameLines n t)

/-- `RunFrame()` (60_exceptions R651). -/
def State.runFrame (s : State) : Out := frameLines s.cfg.tv.totalLines s

end Sys2Proof.Machine
end

