-- ==== Sys2Proof/Machine/HostOps.lean ====
section
/-! DEFINITION. What the host may do at a frame boundary (60_exceptions R656; 10_state R58, R59). None of this is part of `step`
(log 11); the answer is `none` away from a frame boundary. -/

namespace Sys2Proof.Machine

/-- A frame boundary: the vertical counter is 0 and the CPU has caught up (60_exceptions R651, R656). -/
def State.atFrameBoundary (s : State) : Bool := s.vdp.v == 0 && !s.cpuTurn

/-- The host writes the player-input latch (60_exceptions R656). -/
def State.hostSetJoypad (s : State) (j0 j1 : Byte) : Option State :=
  if s.atFrameBoundary then some { s with joypad0 := j0, joypad1 := j1 } else none

/-- The host requests an NMI (the console's pause button; 60_exceptions R656). -/
def State.hostRequestNmi (s : State) : Option State :=
  if s.atFrameBoundary then some { s with cpu.nmiPending := true } else none

/-- The session snapshot; the variant tag is in the mapper's bank and `nmi_pending` in the CPU (10_state R59). -/
structure Snapshot where
  cpu : Cpu
  vdp : Vdp
  mapper : Mapper
  joypad0 : Byte
  joypad1 : Byte
  deriving DecidableEq, Repr

/-- The snapshot exported (10_state R59). -/
def State.snapshot (s : State) : Snapshot := ⟨s.cpu, s.vdp, s.mapper, s.joypad0, s.joypad1⟩

/-- The session with its snapshot replaced; parameters, events and draws are not part of a snapshot (70_reset_and_hazards R702). -/
def State.restore (s : State) (t : Snapshot) : State :=
  { s with cpu := t.cpu, vdp := t.vdp, mapper := t.mapper, joypad0 := t.joypad0, joypad1 := t.joypad1 }

/-- The host exports the snapshot at a frame boundary (60_exceptions R656). -/
def State.hostExport (s : State) : Option Snapshot := if s.atFrameBoundary then some s.snapshot else none

/-- The host replaces the snapshot at a frame boundary (60_exceptions R656). -/
def State.hostReplace (s : State) (t : Snapshot) : Option State := if s.atFrameBoundary then some (s.restore t) else none

end Sys2Proof.Machine
end

