-- ==== Sys2Proof/Machine/Session.lean ====
section
/-! DEFINITION. Session construction: the only reset, and the machine's only error (70_reset_and_hazards R700, R701; 60_exceptions R600). -/

namespace Sys2Proof.Machine

/-- The mapper variant a session is built for (00_scope R5 `MAPPER`). -/
inductive Variant where
  | sega
  | codemasters
  deriving DecidableEq, Repr

/-- The control registers of a fresh session, none of the `CART_RAM_BANKS` banks allocated (10_state R44, R62). -/
def Bank.fresh (count : CartRamBanks) : Variant → Bank
  | .sega => .sega { SegaBank.reset with ram := List.replicate count.sega none }
  | .codemasters => .codemasters { CodemastersBank.reset with ram := List.replicate count.codemasters none }

/-- The ROM image as pages of 8 KiB, `n` of them (10_state R40). -/
def romImagePages : Nat → List Byte → List Memory
  | 0, _ => []
  | n + 1, rom => Memory.ofBytes 0 (rom.take pageSize) :: romImagePages n (rom.drop pageSize)

/-- The events session construction emits to the sink: `NonPowerOfTwoBanks(N)`, once, when `N` is no power of two (20_memory R96). -/
def constructionEvents (n : Nat) : List Event := if 2 ^ n.log2 = n then [] else [.nonPowerOfTwoBanks n]

/-- CPU state of a fresh session, with the initial values `INIT_GPR` (10_state R61). -/
def Cpu.fresh (g : InitGpr) : Cpu :=
  { Cpu.reset with
    a := hiByte g.af
    f := Flags.ofByte (loByte g.af)
    b := hiByte g.bc
    c := loByte g.bc
    d := hiByte g.de
    e := loByte g.de
    h := hiByte g.hl
    l := loByte g.hl
    a' := hiByte g.af'
    f' := Flags.ofByte (loByte g.af')
    bc' := g.bc'
    de' := g.de'
    hl' := g.hl'
    ix := g.ix
    iy := g.iy
    sp := g.sp }

/-- Mapper state of a fresh session over `n` ROM pages (10_state R62). -/
def Mapper.fresh (count : CartRamBanks) (variant : Variant) (n : Nat) (rom : List Byte) : Mapper :=
  let bank := Bank.fresh count variant
  { pages := [] :: romImagePages n rom
    romPages := n
    bank := bank
    slot := (remapOf n bank).1
    writable := (remapOf n bank).2 }

/-- `NewSession(ROM, MAPPER, TV)`, the TV system in `cfg`: `InvalidRomSize`, or a fresh session, whose event history is empty, with the
events that constructing it emits (60_exceptions R600; 70 R700; 10_state R64; 20_memory R96; log 26). -/
def newSession (cfg : Config) (variant : Variant) (rom : List Byte) : Except Fault (State × List Event) :=
  if rom.length = 0 ∨ rom.length % pageSize ≠ 0 then .error (.invalidRomSize rom.length)
  else
    let n := rom.length / pageSize
    .ok
      ({ cfg := cfg
         cpu := Cpu.fresh cfg.initGpr
         mapper := Mapper.fresh cfg.cartRamBanks variant n rom
         vdp := Vdp.reset
         joypad0 := 0xFF
         joypad1 := 0xFF
         events := []
         draws := 0 },
        constructionEvents n)

end Sys2Proof.Machine
end

