-- ==== Sys2Proof/Safety.lean ====
section
/-! DEFINITION. What a safe run is, in the terms the claims use: the invariants the spec states of the session (10_state R37, R40, R41,
R44, R57) and the canonical form of its memories. -/

namespace Sys2Proof.Machine

/-- A cartridge RAM bank of `k` pages, when allocated, lies wholly behind the ROM (10_state R40, R44). -/
def ramPageOk (m : Mapper) (k : Nat) : Option Nat → Prop
  | none => True
  | some p => m.romPages < p ∧ p + k ≤ m.pages.length

/-- Every allocated bank is in range, and a bank the control registers map is allocated (10_state R44; 20_memory R104). -/
structure Bank.ok (m : Mapper) (b : Bank) : Prop where
  inRange : ∀ o ∈ b.ram, ramPageOk m b.ramPages o
  allocated : ∀ k, b.mapped = some k → ∃ p, b.ram[k]? = some (some p)

/-- `CART_RAM_BANKS` of the variant (00_scope R5). -/
def cartRamCount (cfg : Config) : Bank → Nat
  | .sega _ => cfg.cartRamBanks.sega
  | .codemasters _ => cfg.cartRamBanks.codemasters

/-- The mapper's invariants: at least one ROM page, all ROM pages present, the slot table and the writable mask as the remap function
gives them (10_state R40 to R44), and every page canonical. -/
structure Mapper.Inv (m : Mapper) : Prop where
  rom : 1 ≤ m.romPages
  length : m.romPages < m.pages.length
  bank : m.bank.ok m
  table : (m.slot, m.writable) = remapOf m.romPages m.bank
  pages : ∀ p ∈ m.pages, Memory.wf pageSize p = true

/-- The VDP's invariants: `v` below `TOTAL_LINES` (10_state R57), VRAM canonical. -/
structure Vdp.Inv (cfg : Config) (d : Vdp) : Prop where
  v : d.v < cfg.tv.totalLines
  vram : Memory.wf vramSize d.vram = true

/-- The invariants of the session; `cart_ram` has `CART_RAM_BANKS` entries (10_state R44). -/
structure State.Inv (s : State) : Prop where
  mapper : s.mapper.Inv
  ramBanks : s.mapper.bank.ram.length = cartRamCount s.cfg s.mapper.bank
  vdp : s.vdp.Inv s.cfg

/-- Every slot-table entry is an index into the page collection (10_state R41). -/
def Mapper.slotsValid (m : Mapper) : Prop := ∀ i : Fin 8, m.slot[i] < m.pages.length

/-- No writable slot maps a ROM page (10_state R40). -/
def Mapper.romNotWritable (m : Mapper) : Prop :=
  ∀ i : Fin 8, m.writable.getLsbD i = true → m.slot[i] = 0 ∨ m.romPages < m.slot[i]

/-- A step that does not stop. -/
def goesOn (o : Out) : Prop := ∃ t, o = .next t

end Sys2Proof.Machine
end

