-- ==== Sys2Proof/Claims.lean ====
section
/-! DEFINITION. The vocabulary of the claims, written from the rules of spec/ and not from the meanings: the parts of a state, what each
instruction may change, its cost, the bytes it stores, the operand forms of each family, and the arithmetic of the flag rules on
integers. Nothing in the machine imports this file. -/

namespace Sys2Proof.Machine

/-! ### Parts of a state -/

/-- The parts of a state that a frame names: every register, every flag, and the rest of the session (10_state R20 to R60). -/
inductive Part where
  | a | b | c | d | e | h | l
  | flagS | flagZ | flagY | flagH | flagX | flagPv | flagN | flagC
  | shadowAf | shadowBc | shadowDe | shadowHl | ix | iy | sp | pc | i | r
  | iff1 | iff2 | im | halted | intInhibit | nmiPending | cycles
  | mapper | vdp | joypads | events | draws | cfg
  deriving DecidableEq, Repr

/-- That a part has the same value in two states. -/
def Part.same (s t : State) : Part → Prop
  | .a => t.cpu.a = s.cpu.a
  | .b => t.cpu.b = s.cpu.b
  | .c => t.cpu.c = s.cpu.c
  | .d => t.cpu.d = s.cpu.d
  | .e => t.cpu.e = s.cpu.e
  | .h => t.cpu.h = s.cpu.h
  | .l => t.cpu.l = s.cpu.l
  | .flagS => t.cpu.f.s = s.cpu.f.s
  | .flagZ => t.cpu.f.z = s.cpu.f.z
  | .flagY => t.cpu.f.y = s.cpu.f.y
  | .flagH => t.cpu.f.h = s.cpu.f.h
  | .flagX => t.cpu.f.x = s.cpu.f.x
  | .flagPv => t.cpu.f.pv = s.cpu.f.pv
  | .flagN => t.cpu.f.n = s.cpu.f.n
  | .flagC => t.cpu.f.c = s.cpu.f.c
  | .shadowAf => t.cpu.a' = s.cpu.a' ∧ t.cpu.f' = s.cpu.f'
  | .shadowBc => t.cpu.bc' = s.cpu.bc'
  | .shadowDe => t.cpu.de' = s.cpu.de'
  | .shadowHl => t.cpu.hl' = s.cpu.hl'
  | .ix => t.cpu.ix = s.cpu.ix
  | .iy => t.cpu.iy = s.cpu.iy
  | .sp => t.cpu.sp = s.cpu.sp
  | .pc => t.cpu.pc = s.cpu.pc
  | .i => t.cpu.i = s.cpu.i
  | .r => t.cpu.r = s.cpu.r
  | .iff1 => t.cpu.iff1 = s.cpu.iff1
  | .iff2 => t.cpu.iff2 = s.cpu.iff2
  | .im => t.cpu.im = s.cpu.im
  | .halted => t.cpu.halted = s.cpu.halted
  | .intInhibit => t.cpu.intInhibit = s.cpu.intInhibit
  | .nmiPending => t.cpu.nmiPending = s.cpu.nmiPending
  | .cycles => t.cpu.cycles = s.cpu.cycles
  | .mapper => t.mapper = s.mapper
  | .vdp => t.vdp = s.vdp
  | .joypads => t.joypad0 = s.joypad0 ∧ t.joypad1 = s.joypad1
  | .events => t.events = s.events
  | .draws => t.draws = s.draws
  | .cfg => t.cfg = s.cfg

/-- Every part outside the list has the same value in both states. -/
def changesOnly (s t : State) (ps : List Part) : Prop := ∀ p : Part, p ∉ ps → p.same s t

/-- The part an 8-bit register is (30_encoding R145). -/
def regPart : Reg8 → Part
  | .b => .b
  | .c => .c
  | .d => .d
  | .e => .e
  | .h => .h
  | .l => .l
  | .a => .a

/-- The part a register of `LD p,p'` is, `idx` the index register (40_load8 R222). -/
def halfOrRegPart (idx : Part) : RegP → Part
  | .b => .b
  | .c => .c
  | .d => .d
  | .e => .e
  | .hi => idx
  | .lo => idx
  | .a => .a

/-- The parts a pair of the `dd` kind is (30_encoding R146). -/
def pairParts : Pair → List Part
  | .bc => [.b, .c]
  | .de => [.d, .e]
  | .hl => [.h, .l]
  | .sp => [.sp]

/-- All eight bits of F. -/
def allFlags : List Part := [.flagS, .flagZ, .flagY, .flagH, .flagX, .flagPv, .flagN, .flagC]

/-- All bits of F but C. -/
def flagsButC : List Part := [.flagS, .flagZ, .flagY, .flagH, .flagX, .flagPv, .flagN]

/-- H, N, C and the undocumented bits: what the rules that keep S, Z and PV write. -/
def flagsHNC : List Part := [.flagY, .flagH, .flagX, .flagN, .flagC]

/-- The parts a pair of the `qq` kind is (30_encoding R147). -/
def pairQParts : PairQ → List Part
  | .bc => [.b, .c]
  | .de => [.d, .e]
  | .hl => [.h, .l]
  | .af => .a :: allFlags

/-- What a store may change: the mapper and the events. -/
def storing : List Part := [.mapper, .events]

/-- What `RETI` writes besides PC and SP (48_jump_call_return R498). -/
def retiParts : RetiIffPolicy → List Part
  | .unchanged => []
  | .copyIff2 => [.iff1]
  | .set => [.iff1, .iff2]


/-! ### What an instruction may change -/

/-- Whether an instruction is one of the table's six prefix rows (30_encoding R163). -/
def isPrefixRow : Instr → Bool
  | .prefixCb | .prefixDd | .prefixEd | .prefixFd | .prefixDdCb | .prefixFdCb => true
  | _ => false

/-- The parts an instruction may change besides `cycles`: its destination, the registers its rule also updates, the flags its rule
writes (Y and X with any of them, 10_state R28), what its stores and ports reach. A prefix row stands for the entry it leads to. -/
def writtenParts (cfg : Config) : Instr → List Part
  | .nop | .nopEdX0 _ _ | .nopEd77 _ | .nopEd80 _ _ _ | .nopEdA4 _ _ _ | .nopEdX3 _ _ => []
  | .halt => [.halted]
  | .di => [.iff1, .iff2]
  | .ei => [.iff1, .iff2, .intInhibit]
  | .im0 | .im1 | .im2 | .im0Mirror _ | .im1Mirror | .im2Mirror => [.im]
  | .noniDd | .noniFd => [.intInhibit]
  | .ldAMemBc | .ldAMemDe | .ldAMemNn _ => [.a]
  | .ldRN r _ => [regPart r]
  | .ldRMemHl r => [regPart r]
  | .ldRMemIx r _ => [regPart r]
  | .ldRMemIy r _ => [regPart r]
  | .ldRR r _ => [regPart r]
  | .resR _ r => [regPart r]
  | .setR _ r => [regPart r]
  | .ldMemBcA | .ldMemDeA | .ldMemNnA _ | .ldMemHlN _ | .ldMemHlR _ | .ldMemIxN _ _ | .ldMemIxR _ _ | .ldMemIyN _ _
  | .ldMemIyR _ _ | .ldMemNnHl _ | .ldMemNnDd _ _ | .ldMemNnIx _ | .ldMemNnIy _ | .resMemHl _ | .resMemIx _ _
  | .resMemIy _ _ | .setMemHl _ | .setMemIx _ _ | .setMemIy _ _ => storing
  | .resMemIxR _ _ r => regPart r :: storing
  | .resMemIyR _ _ r => regPart r :: storing
  | .setMemIxR _ _ r => regPart r :: storing
  | .setMemIyR _ _ r => regPart r :: storing
  | .ldAI | .ldAR => .a :: .draws :: flagsButC
  | .ldIA => [.i]
  | .ldRA => [.r]
  | .ldIxHalfN _ _ | .ldIxNn _ | .ldIxMemNn _ | .incIx | .decIx => [.ix]
  | .ldIyHalfN _ _ | .ldIyNn _ | .ldIyMemNn _ | .incIy | .decIy => [.iy]
  | .ldPPIx p _ => [halfOrRegPart .ix p]
  | .ldPPIy p _ => [halfOrRegPart .iy p]
  | .ldDdNn p _ => pairParts p
  | .ldDdMemNn p _ => pairParts p
  | .incSs p => pairParts p
  | .decSs p => pairParts p
  | .ldHlMemNn _ => [.h, .l]
  | .ldSpHl | .ldSpIx | .ldSpIy => [.sp]
  | .pushQq _ | .pushIx | .pushIy => .sp :: storing
  | .popQq q => .sp :: pairQParts q
  | .popIx => [.sp, .ix]
  | .popIy => [.sp, .iy]
  | .exAfAf => .a :: .shadowAf :: allFlags
  | .exx => [.b, .c, .d, .e, .h, .l, .shadowBc, .shadowDe, .shadowHl]
  | .exDeHl => [.d, .e, .h, .l]
  | .exMemSpHl => .h :: .l :: storing
  | .exMemSpIx => .ix :: storing
  | .exMemSpIy => .iy :: storing
  | .ldi | .ldd => [.b, .c, .d, .e, .h, .l, .mapper, .events, .draws, .flagY, .flagH, .flagX, .flagPv, .flagN]
  | .ldir | .lddr => [.b, .c, .d, .e, .h, .l, .pc, .mapper, .events, .draws, .flagY, .flagH, .flagX, .flagPv, .flagN]
  | .cpi | .cpd => [.b, .c, .h, .l, .draws] ++ flagsButC
  | .cpir | .cpdr => [.b, .c, .h, .l, .pc, .draws] ++ flagsButC
  | .addAR _ | .addAMemHl | .addAN _ | .addAIxHalf _ | .addAMemIx _ | .addAIyHalf _ | .addAMemIy _ | .adcAR _
  | .adcAMemHl | .adcAN _ | .adcAIxHalf _ | .adcAMemIx _ | .adcAIyHalf _ | .adcAMemIy _ | .subR _ | .subMemHl
  | .subN _ | .subIxHalf _ | .subMemIx _ | .subIyHalf _ | .subMemIy _ | .sbcAR _ | .sbcAMemHl | .sbcAN _
  | .sbcAIxHalf _ | .sbcAMemIx _ | .sbcAIyHalf _ | .sbcAMemIy _ | .andR _ | .andMemHl | .andN _ | .andIxHalf _
  | .andMemIx _ | .andIyHalf _ | .andMemIy _ | .xorR _ | .xorMemHl | .xorN _ | .xorIxHalf _ | .xorMemIx _
  | .xorIyHalf _ | .xorMemIy _ | .orR _ | .orMemHl | .orN _ | .orIxHalf _ | .orMemIx _ | .orIyHalf _ | .orMemIy _ =>
    .a :: .draws :: allFlags
  | .cpR _ | .cpMemHl | .cpN _ | .cpIxHalf _ | .cpMemIx _ | .cpIyHalf _ | .cpMemIy _ => .draws :: allFlags
  | .incR r => regPart r :: .draws :: flagsButC
  | .decR r => regPart r :: .draws :: flagsButC
  | .incMemHl | .incMemIx _ | .incMemIy _ | .decMemHl | .decMemIx _ | .decMemIy _ => storing ++ .draws :: flagsButC
  | .incIxHalf _ | .decIxHalf _ => .ix :: .draws :: flagsButC
  | .incIyHalf _ | .decIyHalf _ => .iy :: .draws :: flagsButC
  | .daa => [.a, .draws, .flagS, .flagZ, .flagY, .flagH, .flagX, .flagPv, .flagC]
  | .cpl => [.a, .draws, .flagY, .flagH, .flagX, .flagN]
  | .neg | .negMirror _ => .a :: .draws :: allFlags
  | .ccf | .scf => .draws :: flagsHNC
  | .addHlSs _ => .h :: .l :: .draws :: flagsHNC
  | .addIxPp _ => .ix :: .draws :: flagsHNC
  | .addIyRr _ => .iy :: .draws :: flagsHNC
  | .adcHlSs _ | .sbcHlSs _ => .h :: .l :: .draws :: allFlags
  | .rlca | .rrca | .rla | .rra => .a :: .draws :: flagsHNC
  | .rlcR r => regPart r :: .draws :: allFlags
  | .rrcR r => regPart r :: .draws :: allFlags
  | .rlR r => regPart r :: .draws :: allFlags
  | .rrR r => regPart r :: .draws :: allFlags
  | .slaR r => regPart r :: .draws :: allFlags
  | .sraR r => regPart r :: .draws :: allFlags
  | .sllR r => regPart r :: .draws :: allFlags
  | .srlR r => regPart r :: .draws :: allFlags
  | .rlcMemHl | .rlcMemIx _ | .rlcMemIy _ | .rrcMemHl | .rrcMemIx _ | .rrcMemIy _ | .rlMemHl | .rlMemIx _
  | .rlMemIy _ | .rrMemHl | .rrMemIx _ | .rrMemIy _ | .slaMemHl | .slaMemIx _ | .slaMemIy _ | .sraMemHl | .sraMemIx _
  | .sraMemIy _ | .sllMemHl | .sllMemIx _ | .sllMemIy _ | .srlMemHl | .srlMemIx _ | .srlMemIy _ => storing ++ .draws :: allFlags
  | .rlcMemIxR _ r => regPart r :: storing ++ .draws :: allFlags
  | .rlcMemIyR _ r => regPart r :: storing ++ .draws :: allFlags
  | .rrcMemIxR _ r => regPart r :: storing ++ .draws :: allFlags
  | .rrcMemIyR _ r => regPart r :: storing ++ .draws :: allFlags
  | .rlMemIxR _ r => regPart r :: storing ++ .draws :: allFlags
  | .rlMemIyR _ r => regPart r :: storing ++ .draws :: allFlags
  | .rrMemIxR _ r => regPart r :: storing ++ .draws :: allFlags
  | .rrMemIyR _ r => regPart r :: storing ++ .draws :: allFlags
  | .slaMemIxR _ r => regPart r :: storing ++ .draws :: allFlags
  | .slaMemIyR _ r => regPart r :: storing ++ .draws :: allFlags
  | .sraMemIxR _ r => regPart r :: storing ++ .draws :: allFlags
  | .sraMemIyR _ r => regPart r :: storing ++ .draws :: allFlags
  | .sllMemIxR _ r => regPart r :: storing ++ .draws :: allFlags
  | .sllMemIyR _ r => regPart r :: storing ++ .draws :: allFlags
  | .srlMemIxR _ r => regPart r :: storing ++ .draws :: allFlags
  | .srlMemIyR _ r => regPart r :: storing ++ .draws :: allFlags
  | .rld | .rrd => .a :: storing ++ .draws :: flagsButC
  | .bitR _ _ | .bitMemHl _ | .bitMemIx _ _ | .bitMemIxZ _ _ _ | .bitMemIy _ _ | .bitMemIyZ _ _ _ => .draws :: flagsButC
  | .jr _ | .jrNz _ | .jrZ _ | .jrNc _ | .jrC _ | .jpHl | .jpIx | .jpIy | .jpNn _ | .jpCcNn _ _ => [.pc]
  | .djnz _ => [.b, .pc]
  | .callNn _ | .callCcNn _ _ | .rst _ => .sp :: .pc :: storing
  | .ret | .retCc _ => [.sp, .pc]
  | .retn | .retnMirror _ => [.sp, .pc, .iff1]
  | .reti => .sp :: .pc :: retiParts cfg.retiIffPolicy
  | .outNA _ | .outCR _ | .outC0 => [.vdp, .events]
  | .inAN _ => [.a, .vdp, .draws]
  | .inRC r => regPart r :: .vdp :: .draws :: flagsButC
  | .inC => .vdp :: .draws :: flagsButC
  | .ini | .ind => [.b, .h, .l, .vdp, .mapper, .events, .draws] ++ flagsButC
  | .inir | .indr => [.b, .h, .l, .pc, .vdp, .mapper, .events, .draws] ++ flagsButC
  | .outi | .outd => [.b, .h, .l, .vdp, .events, .draws] ++ flagsButC
  | .otir | .otdr => [.b, .h, .l, .pc, .vdp, .events, .draws] ++ flagsButC
  | .prefixCb | .prefixDd | .prefixEd | .prefixFd | .prefixDdCb | .prefixFdCb => []

/-! ### What an instruction costs -/

/-- The eight conditions, by flag and value (30_encoding R148). -/
def condTrue (f : Flags) (cc : Cond) : Bool :=
  cc == .nz && f.z == false || cc == .z && f.z == true || cc == .nc && f.c == false || cc == .c && f.c == true ||
    cc == .po && f.pv == false || cc == .pe && f.pv == true || cc == .p && f.s == false || cc == .m && f.s == true

/-- The cycles of an instruction run in a state, the column `cycles` of opcode_table.json; for the conditional and repeating rows which
of the two values applies (70_reset_and_hazards R721). A prefix row has the cost of the entry it leads to. -/
def cycleCost (s : State) : Instr → Nat
  | .nop | .halt | .di | .ei | .noniDd | .noniFd | .ldRR _ _ | .exAfAf | .exx | .exDeHl | .incR _ | .decR _ | .daa
  | .cpl | .ccf | .scf | .rlca | .rrca | .rla | .rra | .jpHl | .addAR _ | .adcAR _ | .subR _ | .sbcAR _ | .andR _
  | .xorR _ | .orR _ | .cpR _ => 4
  | .ldSpHl | .incSs _ | .decSs _ => 6
  | .ldRN _ _ | .ldRMemHl _ | .ldMemHlR _ | .ldAMemBc | .ldAMemDe | .ldMemBcA | .ldMemDeA | .addAMemHl | .addAN _
  | .adcAMemHl | .adcAN _ | .subMemHl | .subN _ | .sbcAMemHl | .sbcAN _ | .andMemHl | .andN _ | .xorMemHl | .xorN _
  | .orMemHl | .orN _ | .cpMemHl | .cpN _ => 7
  | .nopEdX0 _ _ | .nopEd77 _ | .nopEd80 _ _ _ | .nopEdA4 _ _ _ | .nopEdX3 _ _ | .im0 | .im1 | .im2 | .im0Mirror _
  | .im1Mirror | .im2Mirror | .neg | .negMirror _ | .ldPPIx _ _ | .ldPPIy _ _ | .incIxHalf _ | .decIxHalf _
  | .incIyHalf _ | .decIyHalf _ | .bitR _ _ | .resR _ _ | .setR _ _ | .jpIx | .jpIy | .addAIxHalf _ | .addAIyHalf _
  | .adcAIxHalf _ | .adcAIyHalf _ | .subIxHalf _ | .subIyHalf _ | .sbcAIxHalf _ | .sbcAIyHalf _ | .andIxHalf _
  | .andIyHalf _ | .xorIxHalf _ | .xorIyHalf _ | .orIxHalf _ | .orIyHalf _ | .cpIxHalf _ | .cpIyHalf _ | .rlcR _
  | .rrcR _ | .rlR _ | .rrR _ | .slaR _ | .sraR _ | .sllR _ | .srlR _ => 8
  | .ldIA | .ldRA | .ldAI | .ldAR => 9
  | .ldMemHlN _ | .ldDdNn _ _ | .popQq _ | .ldSpIx | .ldSpIy | .incIx | .decIx | .incIy | .decIy | .jpNn _
  | .jpCcNn _ _ | .ret => 10
  | .ldIxHalfN _ _ | .ldIyHalfN _ _ | .pushQq _ | .incMemHl | .decMemHl | .addHlSs _ | .rst _ | .inAN _ | .outNA _ => 11
  | .jr _ | .bitMemHl _ | .inRC _ | .inC | .outCR _ | .outC0 => 12
  | .ldMemNnA _ | .ldAMemNn _ => 13
  | .ldIxNn _ | .ldIyNn _ | .popIx | .popIy | .reti | .retn | .retnMirror _ => 14
  | .pushIx | .pushIy | .adcHlSs _ | .sbcHlSs _ | .addIxPp _ | .addIyRr _ | .resMemHl _ | .setMemHl _ | .rlcMemHl
  | .rrcMemHl | .rlMemHl | .rrMemHl | .slaMemHl | .sraMemHl | .sllMemHl | .srlMemHl => 15
  | .ldMemNnHl _ | .ldHlMemNn _ | .ldi | .ldd | .cpi | .cpd | .ini | .ind | .outi | .outd => 16
  | .callNn _ => 17
  | .rld | .rrd => 18
  | .exMemSpHl | .ldMemIxN _ _ | .ldMemIyN _ _ | .ldRMemIx _ _ | .ldRMemIy _ _ | .ldMemIxR _ _ | .ldMemIyR _ _
  | .addAMemIx _ | .addAMemIy _ | .adcAMemIx _ | .adcAMemIy _ | .subMemIx _ | .subMemIy _ | .sbcAMemIx _
  | .sbcAMemIy _ | .andMemIx _ | .andMemIy _ | .xorMemIx _ | .xorMemIy _ | .orMemIx _ | .orMemIy _ | .cpMemIx _
  | .cpMemIy _ => 19
  | .ldMemNnDd _ _ | .ldDdMemNn _ _ | .ldMemNnIx _ | .ldIxMemNn _ | .ldMemNnIy _ | .ldIyMemNn _ | .bitMemIx _ _
  | .bitMemIy _ _ | .bitMemIxZ _ _ _ | .bitMemIyZ _ _ _ => 20
  | .exMemSpIx | .exMemSpIy | .incMemIx _ | .incMemIy _ | .decMemIx _ | .decMemIy _ | .resMemIx _ _ | .resMemIy _ _
  | .setMemIx _ _ | .setMemIy _ _ | .resMemIxR _ _ _ | .resMemIyR _ _ _ | .setMemIxR _ _ _ | .setMemIyR _ _ _
  | .rlcMemIx _ | .rlcMemIy _ | .rlcMemIxR _ _ | .rlcMemIyR _ _ | .rrcMemIx _ | .rrcMemIy _ | .rrcMemIxR _ _
  | .rrcMemIyR _ _ | .rlMemIx _ | .rlMemIy _ | .rlMemIxR _ _ | .rlMemIyR _ _ | .rrMemIx _ | .rrMemIy _
  | .rrMemIxR _ _ | .rrMemIyR _ _ | .slaMemIx _ | .slaMemIy _ | .slaMemIxR _ _ | .slaMemIyR _ _ | .sraMemIx _
  | .sraMemIy _ | .sraMemIxR _ _ | .sraMemIyR _ _ | .sllMemIx _ | .sllMemIy _ | .sllMemIxR _ _ | .sllMemIyR _ _
  | .srlMemIx _ | .srlMemIy _ | .srlMemIxR _ _ | .srlMemIyR _ _ => 23
  | .jrNz _ => if s.cpu.f.z then 7 else 12
  | .jrZ _ => if s.cpu.f.z then 12 else 7
  | .jrNc _ => if s.cpu.f.c then 7 else 12
  | .jrC _ => if s.cpu.f.c then 12 else 7
  | .djnz _ => if s.cpu.b = 1 then 8 else 13
  | .callCcNn cc _ => if condTrue s.cpu.f cc then 17 else 10
  | .retCc cc => if condTrue s.cpu.f cc then 11 else 5
  | .ldir | .lddr => if s.bc = 1 then 16 else 21
  | .cpir | .cpdr => if s.bc = 1 ∨ s.memRead s.hl = s.cpu.a then 16 else 21
  | .inir | .indr | .otir | .otdr => if s.cpu.b = 1 then 16 else 21
  | .prefixCb | .prefixDd | .prefixEd | .prefixFd | .prefixDdCb | .prefixFdCb => 0

/-! ### Arithmetic of the rules, on integers -/

/-- The eight rotates and shifts of the CB table (30_encoding R158). -/
inductive ShiftOp where
  | rlc | rrc | rl | rr | sla | sra | sll | srl
  deriving DecidableEq, Repr

/-- The result of a rotate or shift of `v` with carry `c` (0 or 1), by arithmetic (46_rotate_shift R427 to R434). -/
def ShiftOp.result (op : ShiftOp) (v c : Nat) : Nat :=
  match op with
  | .rlc => 2 * v % 256 + v / 128
  | .rrc => v / 2 + 128 * (v % 2)
  | .rl => 2 * v % 256 + c
  | .rr => v / 2 + 128 * c
  | .sla => 2 * v % 256
  | .sra => v / 2 + 128 * (v / 128)
  | .sll => 2 * v % 256 + 1
  | .srl => v / 2

/-- The bit shifted out: bit 7 to the left, bit 0 to the right (46_rotate_shift R427 to R434). -/
def ShiftOp.out (op : ShiftOp) (v : Nat) : Nat :=
  match op with
  | .rlc | .rl | .sla | .sll => v / 128
  | .rrc | .rr | .sra | .srl => v % 2

/-- The result of a rotate or shift of a byte as a byte, `f` the flags before. -/
def ShiftOp.byte (op : ShiftOp) (v : Byte) (f : Flags) : Byte := trunc8 (op.result v.toNat f.c.toNat)

/-- The number of 1 bits of a byte. -/
def onesCount (v : Byte) : Nat := ((List.range 8).map (fun k => (v.getLsbD k).toNat)).sum

/-- Whether an integer is outside the signed range of `n` bits: signed overflow. -/
def outOfSigned (n : Nat) (k : Int) : Bool := decide (k < -(2 : Int) ^ (n - 1)) || decide ((2 : Int) ^ (n - 1) ≤ k)

/-- S and Z of an 8-bit result: bit 7, and whether it is 0. -/
structure SignZero (r : Byte) (f : Flags) : Prop where
  s : f.s = decide (128 ≤ r.toNat)
  z : f.z = decide (r.toNat = 0)

/-- `add8` on integers: the result and the six flags (43_alu8 R322). -/
structure AddRule (a v : Byte) (c : Bool) (r : Byte) (f : Flags) : Prop where
  result : r.toNat = (a.toNat + v.toNat + c.toNat) % 256
  signZero : SignZero r f
  h : f.h = decide (15 < a.toNat % 16 + v.toNat % 16 + c.toNat)
  pv : f.pv = outOfSigned 8 (a.toInt + v.toInt + c.toNat)
  n : f.n = false
  c : f.c = decide (255 < a.toNat + v.toNat + c.toNat)

/-- `sub8` on integers: the result and the six flags (43_alu8 R323). -/
structure SubRule (a v : Byte) (c : Bool) (r : Byte) (f : Flags) : Prop where
  result : r.toNat = (256 + a.toNat - v.toNat - c.toNat) % 256
  signZero : SignZero r f
  h : f.h = decide (a.toNat % 16 < v.toNat % 16 + c.toNat)
  pv : f.pv = outOfSigned 8 (a.toInt - v.toInt - c.toNat)
  n : f.n = true
  c : f.c = decide (a.toNat < v.toNat + c.toNat)

/-- `logic8(r, h)`: the six flags, PV set for an even number of 1 bits (43_alu8 R324). -/
structure LogicRule (r : Byte) (h : Bool) (f : Flags) : Prop where
  signZero : SignZero r f
  h : f.h = h
  pv : f.pv = decide (onesCount r % 2 = 0)
  n : f.n = false
  c : f.c = false

/-- The flags of `INC` of `v` with result `r`, `f` before and `g` after (43_alu8 R334). -/
structure IncRule (v r : Byte) (f g : Flags) : Prop where
  result : r.toNat = (v.toNat + 1) % 256
  signZero : SignZero r g
  h : g.h = decide (v.toNat % 16 = 15)
  pv : g.pv = decide (v.toInt + 1 = 128)
  n : g.n = false
  c : g.c = f.c

/-- The flags of `DEC` of `v` with result `r`, `f` before and `g` after (43_alu8 R338). -/
structure DecRule (v r : Byte) (f g : Flags) : Prop where
  result : r.toNat = (v.toNat + 255) % 256
  signZero : SignZero r g
  h : g.h = decide (v.toNat % 16 = 0)
  pv : g.pv = decide (v.toInt - 1 = -129)
  n : g.n = true
  c : g.c = f.c

/-- `shiftflags(r, c)` (46_rotate_shift R426), for a result `r` of `v`. -/
structure ShiftRule (op : ShiftOp) (v r : Byte) (f g : Flags) : Prop where
  result : r.toNat = op.result v.toNat f.c.toNat
  signZero : SignZero r g
  h : g.h = false
  pv : g.pv = decide (onesCount r % 2 = 0)
  n : g.n = false
  c : g.c.toNat = op.out v.toNat

/-- S, Z, PV from a byte, H and N clear, C kept: `RLD`, `RRD` (46_rotate_shift R436) and `IN r,(C)` (49_io R522). -/
structure ValueRule (v : Byte) (f g : Flags) : Prop where
  signZero : SignZero v g
  h : g.h = false
  pv : g.pv = decide (onesCount v % 2 = 0)
  n : g.n = false
  c : g.c = f.c

/-- 16-bit `ADD`: the result, H, N, C; S, Z and PV kept (45_alu16 R391). -/
structure AddWordRule (a v r : Word) (f g : Flags) : Prop where
  result : r.toNat = (a.toNat + v.toNat) % 65536
  h : g.h = decide (4095 < a.toNat % 4096 + v.toNat % 4096)
  n : g.n = false
  c : g.c = decide (65535 < a.toNat + v.toNat)
  kept : g.s = f.s ∧ g.z = f.z ∧ g.pv = f.pv

/-- 16-bit `ADC` (45_alu16 R392). -/
structure AdcWordRule (a v r : Word) (f g : Flags) : Prop where
  result : r.toNat = (a.toNat + v.toNat + f.c.toNat) % 65536
  s : g.s = decide (32768 ≤ r.toNat)
  z : g.z = decide (r.toNat = 0)
  h : g.h = decide (4095 < a.toNat % 4096 + v.toNat % 4096 + f.c.toNat)
  pv : g.pv = outOfSigned 16 (a.toInt + v.toInt + f.c.toNat)
  n : g.n = false
  c : g.c = decide (65535 < a.toNat + v.toNat + f.c.toNat)

/-- 16-bit `SBC` (45_alu16 R393). -/
structure SbcWordRule (a v r : Word) (f g : Flags) : Prop where
  result : r.toNat = (65536 + a.toNat - v.toNat - f.c.toNat) % 65536
  s : g.s = decide (32768 ≤ r.toNat)
  z : g.z = decide (r.toNat = 0)
  h : g.h = decide (a.toNat % 4096 < v.toNat % 4096 + f.c.toNat)
  pv : g.pv = outOfSigned 16 (a.toInt - v.toInt - f.c.toNat)
  n : g.n = true
  c : g.c = decide (a.toNat < v.toNat + f.c.toNat)

/-- What `DAA` adds to A, or takes from it after a subtraction (44_general_control R360). -/
def daaAmount (a : Byte) (f : Flags) : Nat :=
  (if f.h = true ∨ 9 < a.toNat % 16 then 6 else 0) + (if f.c = true ∨ 153 < a.toNat then 96 else 0)

/-! ### Operand forms -/

/-- The eight ALU operations (30_encoding R156). -/
inductive AluOp where
  | add | adc | sub | sbc | and | xor | or | cp
  deriving DecidableEq, Repr

/-- The operation and the operand `s` of an instruction of the 8-bit ALU group, in each of its forms (43_alu8 R321, R333). -/
def aluForm (s : State) : Instr → Option (AluOp × Byte)
  | .addAMemHl => some (.add, s.memRead s.hl)
  | .adcAMemHl => some (.adc, s.memRead s.hl)
  | .subMemHl => some (.sub, s.memRead s.hl)
  | .sbcAMemHl => some (.sbc, s.memRead s.hl)
  | .andMemHl => some (.and, s.memRead s.hl)
  | .xorMemHl => some (.xor, s.memRead s.hl)
  | .orMemHl => some (.or, s.memRead s.hl)
  | .cpMemHl => some (.cp, s.memRead s.hl)
  | .addAR r => some (.add, s.getR8 r)
  | .addAN n => some (.add, n)
  | .addAIxHalf h => some (.add, getHalf s.cpu.ix h)
  | .addAMemIx d => some (.add, s.memRead (s.cpu.ix + sext16 d))
  | .addAIyHalf h => some (.add, getHalf s.cpu.iy h)
  | .addAMemIy d => some (.add, s.memRead (s.cpu.iy + sext16 d))
  | .adcAR r => some (.adc, s.getR8 r)
  | .adcAN n => some (.adc, n)
  | .adcAIxHalf h => some (.adc, getHalf s.cpu.ix h)
  | .adcAMemIx d => some (.adc, s.memRead (s.cpu.ix + sext16 d))
  | .adcAIyHalf h => some (.adc, getHalf s.cpu.iy h)
  | .adcAMemIy d => some (.adc, s.memRead (s.cpu.iy + sext16 d))
  | .subR r => some (.sub, s.getR8 r)
  | .subN n => some (.sub, n)
  | .subIxHalf h => some (.sub, getHalf s.cpu.ix h)
  | .subMemIx d => some (.sub, s.memRead (s.cpu.ix + sext16 d))
  | .subIyHalf h => some (.sub, getHalf s.cpu.iy h)
  | .subMemIy d => some (.sub, s.memRead (s.cpu.iy + sext16 d))
  | .sbcAR r => some (.sbc, s.getR8 r)
  | .sbcAN n => some (.sbc, n)
  | .sbcAIxHalf h => some (.sbc, getHalf s.cpu.ix h)
  | .sbcAMemIx d => some (.sbc, s.memRead (s.cpu.ix + sext16 d))
  | .sbcAIyHalf h => some (.sbc, getHalf s.cpu.iy h)
  | .sbcAMemIy d => some (.sbc, s.memRead (s.cpu.iy + sext16 d))
  | .andR r => some (.and, s.getR8 r)
  | .andN n => some (.and, n)
  | .andIxHalf h => some (.and, getHalf s.cpu.ix h)
  | .andMemIx d => some (.and, s.memRead (s.cpu.ix + sext16 d))
  | .andIyHalf h => some (.and, getHalf s.cpu.iy h)
  | .andMemIy d => some (.and, s.memRead (s.cpu.iy + sext16 d))
  | .xorR r => some (.xor, s.getR8 r)
  | .xorN n => some (.xor, n)
  | .xorIxHalf h => some (.xor, getHalf s.cpu.ix h)
  | .xorMemIx d => some (.xor, s.memRead (s.cpu.ix + sext16 d))
  | .xorIyHalf h => some (.xor, getHalf s.cpu.iy h)
  | .xorMemIy d => some (.xor, s.memRead (s.cpu.iy + sext16 d))
  | .orR r => some (.or, s.getR8 r)
  | .orN n => some (.or, n)
  | .orIxHalf h => some (.or, getHalf s.cpu.ix h)
  | .orMemIx d => some (.or, s.memRead (s.cpu.ix + sext16 d))
  | .orIyHalf h => some (.or, getHalf s.cpu.iy h)
  | .orMemIy d => some (.or, s.memRead (s.cpu.iy + sext16 d))
  | .cpR r => some (.cp, s.getR8 r)
  | .cpN n => some (.cp, n)
  | .cpIxHalf h => some (.cp, getHalf s.cpu.ix h)
  | .cpMemIx d => some (.cp, s.memRead (s.cpu.ix + sext16 d))
  | .cpIyHalf h => some (.cp, getHalf s.cpu.iy h)
  | .cpMemIy d => some (.cp, s.memRead (s.cpu.iy + sext16 d))
  | _ => none

/-- The destination and the byte of a load into an 8-bit register (40_load8 R201 to R205, R212 to R214). -/
def loadForm (s : State) : Instr → Option (Reg8 × Byte)
  | .ldAMemBc => some (.a, s.memRead s.bc)
  | .ldAMemDe => some (.a, s.memRead s.de)
  | .ldRR dst r => some (dst, s.getR8 r)
  | .ldRN dst n => some (dst, n)
  | .ldRMemHl dst => some (dst, s.memRead s.hl)
  | .ldRMemIx dst d => some (dst, s.memRead (s.cpu.ix + sext16 d))
  | .ldRMemIy dst d => some (dst, s.memRead (s.cpu.iy + sext16 d))
  | .ldAMemNn nn => some (.a, s.memRead nn)
  | _ => none

/-- The address and the byte of an 8-bit store (40_load8 R206 to R211, R215 to R217). -/
def storeForm (s : State) : Instr → Option (Word × Byte)
  | .ldMemBcA => some (s.bc, s.cpu.a)
  | .ldMemDeA => some (s.de, s.cpu.a)
  | .ldMemHlR r => some (s.hl, s.getR8 r)
  | .ldMemHlN n => some (s.hl, n)
  | .ldMemIxR d r => some (s.cpu.ix + sext16 d, s.getR8 r)
  | .ldMemIxN d n => some (s.cpu.ix + sext16 d, n)
  | .ldMemIyR d r => some (s.cpu.iy + sext16 d, s.getR8 r)
  | .ldMemIyN d n => some (s.cpu.iy + sext16 d, n)
  | .ldMemNnA nn => some (nn, s.cpu.a)
  | _ => none

/-- A 16-bit register. -/
inductive Reg16 where
  | bc | de | hl | sp | ix | iy
  deriving DecidableEq, Repr

/-- The value of a 16-bit register (10_state R21, R23, R24). -/
def State.reg16 (s : State) : Reg16 → Word
  | .bc => s.bc
  | .de => s.de
  | .hl => s.hl
  | .sp => s.cpu.sp
  | .ix => s.cpu.ix
  | .iy => s.cpu.iy

/-- The register of a `dd` or `ss` operand (30_encoding R146). -/
def pairReg16 : Pair → Reg16
  | .bc => .bc
  | .de => .de
  | .hl => .hl
  | .sp => .sp

/-- The destination and the value of a load into a 16-bit register (41_load16_stack R241 to R247, R252, R254, R255). -/
def loadWordForm (s : State) : Instr → Option (Reg16 × Word)
  | .ldSpHl => some (.sp, s.hl)
  | .ldSpIx => some (.sp, s.cpu.ix)
  | .ldSpIy => some (.sp, s.cpu.iy)
  | .ldDdNn dd nn => some (pairReg16 dd, nn)
  | .ldIxNn nn => some (.ix, nn)
  | .ldIyNn nn => some (.iy, nn)
  | .ldHlMemNn nn => some (.hl, s.memRead16 nn)
  | .ldDdMemNn dd nn => some (pairReg16 dd, s.memRead16 nn)
  | .ldIxMemNn nn => some (.ix, s.memRead16 nn)
  | .ldIyMemNn nn => some (.iy, s.memRead16 nn)
  | _ => none

/-- The address and the value of a 16-bit store (41_load16_stack R248 to R251). -/
def storeWordForm (s : State) : Instr → Option (Word × Word)
  | .ldMemNnHl nn => some (nn, s.hl)
  | .ldMemNnDd nn dd => some (nn, s.reg16 (pairReg16 dd))
  | .ldMemNnIx nn => some (nn, s.cpu.ix)
  | .ldMemNnIy nn => some (nn, s.cpu.iy)
  | _ => none

/-- The value a push stores (41_load16_stack R256 to R258). -/
def pushForm (s : State) : Instr → Option Word
  | .pushIx => some s.cpu.ix
  | .pushIy => some s.cpu.iy
  | .pushQq qq => some (s.getPairQ qq)
  | _ => none

/-- The address of an instruction that increments or decrements a byte of memory, and whether it increments (43_alu8 R335 to R341). -/
def incDecForm (s : State) : Instr → Option (Bool × Word)
  | .incMemHl => some (true, s.hl)
  | .incMemIx d => some (true, s.cpu.ix + sext16 d)
  | .incMemIy d => some (true, s.cpu.iy + sext16 d)
  | .decMemHl => some (false, s.hl)
  | .decMemIx d => some (false, s.cpu.ix + sext16 d)
  | .decMemIy d => some (false, s.cpu.iy + sext16 d)
  | _ => none

/-- The operation and the register of a rotate or shift of a register (46_rotate_shift R425). -/
def shiftRegForm : Instr → Option (ShiftOp × Reg8)
  | .rlcR r => some (.rlc, r)
  | .rrcR r => some (.rrc, r)
  | .rlR r => some (.rl, r)
  | .rrR r => some (.rr, r)
  | .slaR r => some (.sla, r)
  | .sraR r => some (.sra, r)
  | .sllR r => some (.sll, r)
  | .srlR r => some (.srl, r)
  | _ => none

/-- The operation, the address and, in the copy forms, the register of a rotate or shift of a byte of memory
(46_rotate_shift R425, R435). -/
def shiftMemForm (s : State) : Instr → Option (ShiftOp × Word × Option Reg8)
  | .rlcMemHl => some (.rlc, s.hl, none)
  | .rrcMemHl => some (.rrc, s.hl, none)
  | .rlMemHl => some (.rl, s.hl, none)
  | .rrMemHl => some (.rr, s.hl, none)
  | .slaMemHl => some (.sla, s.hl, none)
  | .sraMemHl => some (.sra, s.hl, none)
  | .sllMemHl => some (.sll, s.hl, none)
  | .srlMemHl => some (.srl, s.hl, none)
  | .rlcMemIx d => some (.rlc, s.cpu.ix + sext16 d, none)
  | .rlcMemIxR d r => some (.rlc, s.cpu.ix + sext16 d, some r)
  | .rlcMemIy d => some (.rlc, s.cpu.iy + sext16 d, none)
  | .rlcMemIyR d r => some (.rlc, s.cpu.iy + sext16 d, some r)
  | .rrcMemIx d => some (.rrc, s.cpu.ix + sext16 d, none)
  | .rrcMemIxR d r => some (.rrc, s.cpu.ix + sext16 d, some r)
  | .rrcMemIy d => some (.rrc, s.cpu.iy + sext16 d, none)
  | .rrcMemIyR d r => some (.rrc, s.cpu.iy + sext16 d, some r)
  | .rlMemIx d => some (.rl, s.cpu.ix + sext16 d, none)
  | .rlMemIxR d r => some (.rl, s.cpu.ix + sext16 d, some r)
  | .rlMemIy d => some (.rl, s.cpu.iy + sext16 d, none)
  | .rlMemIyR d r => some (.rl, s.cpu.iy + sext16 d, some r)
  | .rrMemIx d => some (.rr, s.cpu.ix + sext16 d, none)
  | .rrMemIxR d r => some (.rr, s.cpu.ix + sext16 d, some r)
  | .rrMemIy d => some (.rr, s.cpu.iy + sext16 d, none)
  | .rrMemIyR d r => some (.rr, s.cpu.iy + sext16 d, some r)
  | .slaMemIx d => some (.sla, s.cpu.ix + sext16 d, none)
  | .slaMemIxR d r => some (.sla, s.cpu.ix + sext16 d, some r)
  | .slaMemIy d => some (.sla, s.cpu.iy + sext16 d, none)
  | .slaMemIyR d r => some (.sla, s.cpu.iy + sext16 d, some r)
  | .sraMemIx d => some (.sra, s.cpu.ix + sext16 d, none)
  | .sraMemIxR d r => some (.sra, s.cpu.ix + sext16 d, some r)
  | .sraMemIy d => some (.sra, s.cpu.iy + sext16 d, none)
  | .sraMemIyR d r => some (.sra, s.cpu.iy + sext16 d, some r)
  | .sllMemIx d => some (.sll, s.cpu.ix + sext16 d, none)
  | .sllMemIxR d r => some (.sll, s.cpu.ix + sext16 d, some r)
  | .sllMemIy d => some (.sll, s.cpu.iy + sext16 d, none)
  | .sllMemIyR d r => some (.sll, s.cpu.iy + sext16 d, some r)
  | .srlMemIx d => some (.srl, s.cpu.ix + sext16 d, none)
  | .srlMemIxR d r => some (.srl, s.cpu.ix + sext16 d, some r)
  | .srlMemIy d => some (.srl, s.cpu.iy + sext16 d, none)
  | .srlMemIyR d r => some (.srl, s.cpu.iy + sext16 d, some r)
  | _ => none

/-- The bit and the tested byte of a `BIT` (47_bit R461 to R464, R473). -/
def bitForm (s : State) : Instr → Option (BitVec 3 × Byte)
  | .bitR b r => some (b, s.getR8 r)
  | .bitMemHl b => some (b, s.memRead s.hl)
  | .bitMemIx b d => some (b, s.memRead (s.cpu.ix + sext16 d))
  | .bitMemIxZ b d _ => some (b, s.memRead (s.cpu.ix + sext16 d))
  | .bitMemIy b d => some (b, s.memRead (s.cpu.iy + sext16 d))
  | .bitMemIyZ b d _ => some (b, s.memRead (s.cpu.iy + sext16 d))
  | _ => none

/-- Whether it sets, the bit, the address and, in the copy forms, the register of a `SET` or `RES` of a byte of memory
(47_bit R466 to R468, R470 to R472, R474). -/
def setResForm (s : State) : Instr → Option (Bool × BitVec 3 × Word × Option Reg8)
  | .setMemHl b => some (true, b, s.hl, none)
  | .setMemIx b d => some (true, b, s.cpu.ix + sext16 d, none)
  | .setMemIxR b d r => some (true, b, s.cpu.ix + sext16 d, some r)
  | .setMemIy b d => some (true, b, s.cpu.iy + sext16 d, none)
  | .setMemIyR b d r => some (true, b, s.cpu.iy + sext16 d, some r)
  | .resMemHl b => some (false, b, s.hl, none)
  | .resMemIx b d => some (false, b, s.cpu.ix + sext16 d, none)
  | .resMemIxR b d r => some (false, b, s.cpu.ix + sext16 d, some r)
  | .resMemIy b d => some (false, b, s.cpu.iy + sext16 d, none)
  | .resMemIyR b d r => some (false, b, s.cpu.iy + sext16 d, some r)
  | _ => none

/-- A byte with one bit replaced: `2^b` added or taken away where the bit differs (47_bit R465, R469). -/
def withBit (v : Byte) (b : BitVec 3) (set : Bool) : Byte :=
  trunc8 (v.toNat - v.toNat / 2 ^ b.toNat % 2 * 2 ^ b.toNat + set.toNat * 2 ^ b.toNat)

/-! ### What an instruction stores -/

/-- A word stored at an address, low byte first (20_memory R86). -/
def wordStores (a v : Word) : List (Word × Byte) := [(a, loByte v), (a + 1, hiByte v)]

/-- A word pushed, high byte first (41_load16_stack R253). -/
def pushStores (s : State) (v : Word) : List (Word × Byte) := [(s.cpu.sp - 1, hiByte v), (s.cpu.sp - 2, loByte v)]

/-- The stores of `EX (SP),..`, high byte first (42_exchange_block R284). -/
def topStores (s : State) (v : Word) : List (Word × Byte) := [(s.cpu.sp + 1, hiByte v), (s.cpu.sp, loByte v)]

/-- The bytes an instruction stores, with their addresses, in the order of the stores. An instruction with no entry stores nothing;
a prefix row stands for the entry it leads to. -/
def storesOf (s : State) : Instr → List (Word × Byte)
  | .ldMemBcA => [(s.bc, s.cpu.a)]
  | .ldMemDeA => [(s.de, s.cpu.a)]
  | .ldMemNnA nn => [(nn, s.cpu.a)]
  | .ldMemHlN n => [(s.hl, n)]
  | .ldMemHlR r => [(s.hl, s.getR8 r)]
  | .ldMemIxN d n => [(s.cpu.ix + sext16 d, n)]
  | .ldMemIxR d r => [(s.cpu.ix + sext16 d, s.getR8 r)]
  | .ldMemIyN d n => [(s.cpu.iy + sext16 d, n)]
  | .ldMemIyR d r => [(s.cpu.iy + sext16 d, s.getR8 r)]
  | .ldMemNnHl nn => wordStores nn s.hl
  | .ldMemNnDd nn dd => wordStores nn (s.reg16 (pairReg16 dd))
  | .ldMemNnIx nn => wordStores nn s.cpu.ix
  | .ldMemNnIy nn => wordStores nn s.cpu.iy
  | .pushQq qq => pushStores s (s.getPairQ qq)
  | .pushIx => pushStores s s.cpu.ix
  | .pushIy => pushStores s s.cpu.iy
  | .exMemSpHl => topStores s s.hl
  | .exMemSpIx => topStores s s.cpu.ix
  | .exMemSpIy => topStores s s.cpu.iy
  | .ldi | .ldd | .ldir | .lddr => [(s.de, s.memRead s.hl)]
  | .incMemHl => [(s.hl, s.memRead s.hl + 1)]
  | .decMemHl => [(s.hl, s.memRead s.hl - 1)]
  | .incMemIx d => [(s.cpu.ix + sext16 d, s.memRead (s.cpu.ix + sext16 d) + 1)]
  | .decMemIx d => [(s.cpu.ix + sext16 d, s.memRead (s.cpu.ix + sext16 d) - 1)]
  | .incMemIy d => [(s.cpu.iy + sext16 d, s.memRead (s.cpu.iy + sext16 d) + 1)]
  | .decMemIy d => [(s.cpu.iy + sext16 d, s.memRead (s.cpu.iy + sext16 d) - 1)]
  | .rlcMemHl => [(s.hl, ShiftOp.rlc.byte (s.memRead s.hl) s.cpu.f)]
  | .rlcMemIx d => [(s.cpu.ix + sext16 d, ShiftOp.rlc.byte (s.memRead (s.cpu.ix + sext16 d)) s.cpu.f)]
  | .rlcMemIxR d _ => [(s.cpu.ix + sext16 d, ShiftOp.rlc.byte (s.memRead (s.cpu.ix + sext16 d)) s.cpu.f)]
  | .rlcMemIy d => [(s.cpu.iy + sext16 d, ShiftOp.rlc.byte (s.memRead (s.cpu.iy + sext16 d)) s.cpu.f)]
  | .rlcMemIyR d _ => [(s.cpu.iy + sext16 d, ShiftOp.rlc.byte (s.memRead (s.cpu.iy + sext16 d)) s.cpu.f)]
  | .rrcMemHl => [(s.hl, ShiftOp.rrc.byte (s.memRead s.hl) s.cpu.f)]
  | .rrcMemIx d => [(s.cpu.ix + sext16 d, ShiftOp.rrc.byte (s.memRead (s.cpu.ix + sext16 d)) s.cpu.f)]
  | .rrcMemIxR d _ => [(s.cpu.ix + sext16 d, ShiftOp.rrc.byte (s.memRead (s.cpu.ix + sext16 d)) s.cpu.f)]
  | .rrcMemIy d => [(s.cpu.iy + sext16 d, ShiftOp.rrc.byte (s.memRead (s.cpu.iy + sext16 d)) s.cpu.f)]
  | .rrcMemIyR d _ => [(s.cpu.iy + sext16 d, ShiftOp.rrc.byte (s.memRead (s.cpu.iy + sext16 d)) s.cpu.f)]
  | .rlMemHl => [(s.hl, ShiftOp.rl.byte (s.memRead s.hl) s.cpu.f)]
  | .rlMemIx d => [(s.cpu.ix + sext16 d, ShiftOp.rl.byte (s.memRead (s.cpu.ix + sext16 d)) s.cpu.f)]
  | .rlMemIxR d _ => [(s.cpu.ix + sext16 d, ShiftOp.rl.byte (s.memRead (s.cpu.ix + sext16 d)) s.cpu.f)]
  | .rlMemIy d => [(s.cpu.iy + sext16 d, ShiftOp.rl.byte (s.memRead (s.cpu.iy + sext16 d)) s.cpu.f)]
  | .rlMemIyR d _ => [(s.cpu.iy + sext16 d, ShiftOp.rl.byte (s.memRead (s.cpu.iy + sext16 d)) s.cpu.f)]
  | .rrMemHl => [(s.hl, ShiftOp.rr.byte (s.memRead s.hl) s.cpu.f)]
  | .rrMemIx d => [(s.cpu.ix + sext16 d, ShiftOp.rr.byte (s.memRead (s.cpu.ix + sext16 d)) s.cpu.f)]
  | .rrMemIxR d _ => [(s.cpu.ix + sext16 d, ShiftOp.rr.byte (s.memRead (s.cpu.ix + sext16 d)) s.cpu.f)]
  | .rrMemIy d => [(s.cpu.iy + sext16 d, ShiftOp.rr.byte (s.memRead (s.cpu.iy + sext16 d)) s.cpu.f)]
  | .rrMemIyR d _ => [(s.cpu.iy + sext16 d, ShiftOp.rr.byte (s.memRead (s.cpu.iy + sext16 d)) s.cpu.f)]
  | .slaMemHl => [(s.hl, ShiftOp.sla.byte (s.memRead s.hl) s.cpu.f)]
  | .slaMemIx d => [(s.cpu.ix + sext16 d, ShiftOp.sla.byte (s.memRead (s.cpu.ix + sext16 d)) s.cpu.f)]
  | .slaMemIxR d _ => [(s.cpu.ix + sext16 d, ShiftOp.sla.byte (s.memRead (s.cpu.ix + sext16 d)) s.cpu.f)]
  | .slaMemIy d => [(s.cpu.iy + sext16 d, ShiftOp.sla.byte (s.memRead (s.cpu.iy + sext16 d)) s.cpu.f)]
  | .slaMemIyR d _ => [(s.cpu.iy + sext16 d, ShiftOp.sla.byte (s.memRead (s.cpu.iy + sext16 d)) s.cpu.f)]
  | .sraMemHl => [(s.hl, ShiftOp.sra.byte (s.memRead s.hl) s.cpu.f)]
  | .sraMemIx d => [(s.cpu.ix + sext16 d, ShiftOp.sra.byte (s.memRead (s.cpu.ix + sext16 d)) s.cpu.f)]
  | .sraMemIxR d _ => [(s.cpu.ix + sext16 d, ShiftOp.sra.byte (s.memRead (s.cpu.ix + sext16 d)) s.cpu.f)]
  | .sraMemIy d => [(s.cpu.iy + sext16 d, ShiftOp.sra.byte (s.memRead (s.cpu.iy + sext16 d)) s.cpu.f)]
  | .sraMemIyR d _ => [(s.cpu.iy + sext16 d, ShiftOp.sra.byte (s.memRead (s.cpu.iy + sext16 d)) s.cpu.f)]
  | .sllMemHl => [(s.hl, ShiftOp.sll.byte (s.memRead s.hl) s.cpu.f)]
  | .sllMemIx d => [(s.cpu.ix + sext16 d, ShiftOp.sll.byte (s.memRead (s.cpu.ix + sext16 d)) s.cpu.f)]
  | .sllMemIxR d _ => [(s.cpu.ix + sext16 d, ShiftOp.sll.byte (s.memRead (s.cpu.ix + sext16 d)) s.cpu.f)]
  | .sllMemIy d => [(s.cpu.iy + sext16 d, ShiftOp.sll.byte (s.memRead (s.cpu.iy + sext16 d)) s.cpu.f)]
  | .sllMemIyR d _ => [(s.cpu.iy + sext16 d, ShiftOp.sll.byte (s.memRead (s.cpu.iy + sext16 d)) s.cpu.f)]
  | .srlMemHl => [(s.hl, ShiftOp.srl.byte (s.memRead s.hl) s.cpu.f)]
  | .srlMemIx d => [(s.cpu.ix + sext16 d, ShiftOp.srl.byte (s.memRead (s.cpu.ix + sext16 d)) s.cpu.f)]
  | .srlMemIxR d _ => [(s.cpu.ix + sext16 d, ShiftOp.srl.byte (s.memRead (s.cpu.ix + sext16 d)) s.cpu.f)]
  | .srlMemIy d => [(s.cpu.iy + sext16 d, ShiftOp.srl.byte (s.memRead (s.cpu.iy + sext16 d)) s.cpu.f)]
  | .srlMemIyR d _ => [(s.cpu.iy + sext16 d, ShiftOp.srl.byte (s.memRead (s.cpu.iy + sext16 d)) s.cpu.f)]
  | .rld => [(s.hl, trunc8 (16 * ((s.memRead s.hl).toNat % 16) + s.cpu.a.toNat % 16))]
  | .rrd => [(s.hl, trunc8 (16 * (s.cpu.a.toNat % 16) + (s.memRead s.hl).toNat / 16))]
  | .setMemHl b => [(s.hl, withBit (s.memRead s.hl) b true)]
  | .setMemIx b d => [(s.cpu.ix + sext16 d, withBit (s.memRead (s.cpu.ix + sext16 d)) b true)]
  | .setMemIxR b d _ => [(s.cpu.ix + sext16 d, withBit (s.memRead (s.cpu.ix + sext16 d)) b true)]
  | .setMemIy b d => [(s.cpu.iy + sext16 d, withBit (s.memRead (s.cpu.iy + sext16 d)) b true)]
  | .setMemIyR b d _ => [(s.cpu.iy + sext16 d, withBit (s.memRead (s.cpu.iy + sext16 d)) b true)]
  | .resMemHl b => [(s.hl, withBit (s.memRead s.hl) b false)]
  | .resMemIx b d => [(s.cpu.ix + sext16 d, withBit (s.memRead (s.cpu.ix + sext16 d)) b false)]
  | .resMemIxR b d _ => [(s.cpu.ix + sext16 d, withBit (s.memRead (s.cpu.ix + sext16 d)) b false)]
  | .resMemIy b d => [(s.cpu.iy + sext16 d, withBit (s.memRead (s.cpu.iy + sext16 d)) b false)]
  | .resMemIyR b d _ => [(s.cpu.iy + sext16 d, withBit (s.memRead (s.cpu.iy + sext16 d)) b false)]
  | .callNn _ => pushStores s s.cpu.pc
  | .callCcNn cc _ => if condTrue s.cpu.f cc then pushStores s s.cpu.pc else []
  | .rst _ => pushStores s s.cpu.pc
  | .ini | .ind | .inir | .indr => [(s.hl, (s.ioRead s.bc).1)]
  | .nop | .exAfAf | .djnz _ | .jr _ | .jrNz _ | .jrZ _ | .jrNc _ | .jrC _ | .ldDdNn _ _ | .addHlSs _ | .ldAMemBc
  | .ldAMemDe | .ldHlMemNn _ | .ldAMemNn _ | .incSs _ | .decSs _ | .incR _ | .decR _ | .ldRN _ _ | .rlca | .rrca
  | .rla | .rra | .daa | .cpl | .scf | .ccf | .ldRR _ _ | .ldRMemHl _ | .halt | .addAR _ | .addAMemHl | .addAN _
  | .adcAR _ | .adcAMemHl | .adcAN _ | .subR _ | .subMemHl | .subN _ | .sbcAR _ | .sbcAMemHl | .sbcAN _ | .andR _
  | .andMemHl | .andN _ | .xorR _ | .xorMemHl | .xorN _ | .orR _ | .orMemHl | .orN _ | .cpR _ | .cpMemHl | .cpN _
  | .retCc _ | .popQq _ | .ret | .exx | .jpHl | .ldSpHl | .jpCcNn _ _ | .jpNn _ | .prefixCb | .outNA _ | .inAN _
  | .exDeHl | .di | .ei | .prefixDd | .prefixEd | .prefixFd | .rlcR _ | .rrcR _ | .rlR _ | .rrR _ | .slaR _ | .sraR _
  | .sllR _ | .srlR _ | .bitR _ _ | .bitMemHl _ | .resR _ _ | .setR _ _ | .inRC _ | .inC | .outCR _ | .outC0
  | .sbcHlSs _ | .adcHlSs _ | .ldDdMemNn _ _ | .neg | .negMirror _ | .retn | .reti | .retnMirror _ | .im0 | .im1
  | .im2 | .im0Mirror _ | .im1Mirror | .im2Mirror | .ldIA | .ldRA | .ldAI | .ldAR | .cpi | .outi | .cpd | .outd
  | .cpir | .otir | .cpdr | .otdr | .nopEdX0 _ _ | .nopEd77 _ | .nopEd80 _ _ _ | .nopEdA4 _ _ _ | .nopEdX3 _ _
  | .addIxPp _ | .ldIxNn _ | .incIx | .ldIxMemNn _ | .decIx | .incIxHalf _ | .decIxHalf _ | .ldIxHalfN _ _
  | .ldRMemIx _ _ | .ldPPIx _ _ | .addAIxHalf _ | .addAMemIx _ | .adcAIxHalf _ | .adcAMemIx _ | .subIxHalf _
  | .subMemIx _ | .sbcAIxHalf _ | .sbcAMemIx _ | .andIxHalf _ | .andMemIx _ | .xorIxHalf _ | .xorMemIx _
  | .orIxHalf _ | .orMemIx _ | .cpIxHalf _ | .cpMemIx _ | .prefixDdCb | .popIx | .jpIx | .ldSpIx | .noniDd
  | .bitMemIx _ _ | .bitMemIxZ _ _ _ | .addIyRr _ | .ldIyNn _ | .incIy | .ldIyMemNn _ | .decIy | .incIyHalf _
  | .decIyHalf _ | .ldIyHalfN _ _ | .ldRMemIy _ _ | .ldPPIy _ _ | .addAIyHalf _ | .addAMemIy _ | .adcAIyHalf _
  | .adcAMemIy _ | .subIyHalf _ | .subMemIy _ | .sbcAIyHalf _ | .sbcAMemIy _ | .andIyHalf _ | .andMemIy _
  | .xorIyHalf _ | .xorMemIy _ | .orIyHalf _ | .orMemIy _ | .cpIyHalf _ | .cpMemIy _ | .prefixFdCb | .popIy | .jpIy
  | .ldSpIy | .noniFd | .bitMemIy _ _ | .bitMemIyZ _ _ _ => []

/-- Bytes stored one after the other through the mapper (20_memory R95). -/
def storeAll (through : Bool) (m : Mapper) (ws : List (Word × Byte)) : Mapper :=
  ws.foldl (fun m w => (m.write through w.1 w.2).1) m

/-- Whether an address is a control address of the mapper: 0xFFFC to 0xFFFF on the Sega variant, exactly 0x0000, 0x4000 and 0x8000 on
the Codemasters variant (20_memory R95). -/
def Mapper.isControl (m : Mapper) (a : Word) : Bool :=
  match m.bank with
  | .sega _ => decide (0xFFFC ≤ a.toNat)
  | .codemasters _ => a == 0x0000 || a == 0x4000 || a == 0x8000

/-- The physical page and offset where a byte stored at an ordinary address lands; none where the slot is not writable
(20_memory R95). -/
def Mapper.storeTarget (m : Mapper) (a : Word) : Option (Nat × Nat) :=
  if m.writable.getLsbD (slotOf a) then some (m.slot[slotOf a], offsetOf a) else none

/-- The Sega control registers as a list (10_state R43). -/
def SegaBank.ctl (r : SegaBank) : List Byte := [r.ctl0, r.ctl1, r.ctl2, r.ctl3]

/-- The Codemasters control registers as a list (10_state R43). -/
def CodemastersBank.ctl (r : CodemastersBank) : List Byte := [r.ctl0, r.ctl1, r.ctl2]

/-- The page of half `j` of ROM bank `ctl` in a ROM of `n` pages (20_memory R93). -/
def bankPage (n : Nat) (ctl : Byte) (j : Nat) : Nat := 1 + (2 * (ctl.toNat % 128) + j) % n

/-- The table and the mask of the Sega variant (20_memory R100), with the bank's RAM allocated where it is mapped; a number that is none of
the `CART_RAM_BANKS` banks maps none (log 25). -/
def SegaTable (m : Mapper) (r : SegaBank) : Prop :=
  m.slot[0] = bankPage m.romPages r.ctl1 0 ∧ m.slot[1] = bankPage m.romPages r.ctl1 1 ∧
  m.slot[2] = bankPage m.romPages r.ctl2 0 ∧ m.slot[3] = bankPage m.romPages r.ctl2 1 ∧
  m.slot[6] = 0 ∧ m.slot[7] = 0 ∧
  (r.ctl0.toNat / 8 % 2 = 0 ∨ r.ram.length ≤ r.ctl0.toNat / 4 % 2 →
    m.slot[4] = bankPage m.romPages r.ctl3 0 ∧ m.slot[5] = bankPage m.romPages r.ctl3 1 ∧ m.writable = 0b11000000) ∧
  (r.ctl0.toNat / 8 % 2 = 1 → r.ctl0.toNat / 4 % 2 < r.ram.length → m.writable = 0b11110000 ∧
    ∃ p, r.ram[r.ctl0.toNat / 4 % 2]? = some (some p) ∧ m.slot[4] = p ∧ m.slot[5] = p + 1)

/-- The table and the mask of the Codemasters variant (20_memory R110), bank 0 being mapped where there is one (log 25). -/
def CodemastersTable (m : Mapper) (r : CodemastersBank) : Prop :=
  m.slot[0] = bankPage m.romPages r.ctl0 0 ∧ m.slot[1] = bankPage m.romPages r.ctl0 1 ∧
  m.slot[2] = bankPage m.romPages r.ctl1 0 ∧ m.slot[3] = bankPage m.romPages r.ctl1 1 ∧
  m.slot[4] = bankPage m.romPages r.ctl2 0 ∧ m.slot[6] = 0 ∧ m.slot[7] = 0 ∧
  (r.ctl1.toNat / 128 = 0 ∨ r.ram.length = 0 → m.slot[5] = bankPage m.romPages r.ctl2 1 ∧ m.writable = 0b11000000) ∧
  (r.ctl1.toNat / 128 = 1 → 0 < r.ram.length → m.writable = 0b11100000 ∧ ∃ p, r.ram[0]? = some (some p) ∧ m.slot[5] = p)

/-! ### A fresh session -/

/-- CPU state in a fresh session: PC, interrupt state, I, R and the counter zero, every other register at `INIT_GPR` (10_state R61). -/
structure FreshCpu (g : InitGpr) (s : State) : Prop where
  pc : s.cpu.pc = 0
  iff1 : s.cpu.iff1 = false
  iff2 : s.cpu.iff2 = false
  im : s.cpu.im = .im0
  i : s.cpu.i = 0
  r : s.cpu.r = 0
  halted : s.cpu.halted = false
  intInhibit : s.cpu.intInhibit = false
  nmiPending : s.cpu.nmiPending = false
  cycles : s.cpu.cycles = 0
  af : wordOf s.cpu.a s.cpu.f.toByte = g.af
  bc : s.bc = g.bc
  de : s.de = g.de
  hl : s.hl = g.hl
  afShadow : wordOf s.cpu.a' s.cpu.f'.toByte = g.af'
  bcShadow : s.cpu.bc' = g.bc'
  deShadow : s.cpu.de' = g.de'
  hlShadow : s.cpu.hl' = g.hl'
  ix : s.cpu.ix = g.ix
  iy : s.cpu.iy = g.iy
  sp : s.cpu.sp = g.sp

/-- VDP state in a fresh session: all of it zero (10_state R63). -/
structure FreshVdp (d : Vdp) : Prop where
  status : d.status = ⟨false, false, false, false⟩
  reg : ∀ k : Fin 16, d.reg[k] = 0
  cram : ∀ k : Fin 32, d.cram[k] = 0
  vram : ∀ k, Memory.read d.vram k = 0
  v : d.v = 0
  h : d.h = 0
  lineCounter : d.lineCounter = 0
  codeAddr : d.codeAddr = 0
  firstWrite : d.firstWrite = false
  readBuffer : d.readBuffer = 0
  vscrollLatch : d.vscrollLatch = 0
  vdpCycles : d.vdpCycles = 0

/-- Mapper state in a fresh session over a ROM: the pages, the registers of the variant, the table and the mask those registers give, no
cartridge RAM allocated in any of the `CART_RAM_BANKS` banks (10_state R40, R44, R62). -/
structure FreshMapper (count : CartRamBanks) (variant : Variant) (rom : List Byte) (m : Mapper) : Prop where
  romPages : m.romPages = rom.length / 8192
  pages : m.pages.length = 1 + rom.length / 8192
  systemRam : ∀ o, m.pageByte 0 o = 0
  image : ∀ k o, k < rom.length / 8192 → o < 8192 → some (m.pageByte (1 + k) o) = rom[k * 8192 + o]?
  sega : variant = .sega →
    m.bank = .sega ⟨0x00, 0x00, 0x01, 0x02, List.replicate count.sega none⟩ ∧
      ∀ k : Fin 8, m.slot[k] = if k.val < 6 then 1 + k.val % (rom.length / 8192) else 0
  codemasters : variant = .codemasters →
    m.bank = .codemasters ⟨0x00, 0x01, 0x00, List.replicate count.codemasters none⟩ ∧
      ∀ k : Fin 8, m.slot[k] = if k.val < 6 then 1 + k.val % 4 % (rom.length / 8192) else 0
  writable : m.writable = 0b11000000

/-! ### Prefix rows, interrupts and the line stepper -/

/-- The entry a prefix row leads to and the state in which it runs, when the row's own bytes have been fetched (30_encoding R141, R152,
R153): after `CB` and `ED` an opcode with its operands, after `DD` and `FD` an opcode of `IDX_OPS` or nothing, after `DD CB` and `FD CB`
a displacement and an opcode. The opcode after a one-byte prefix is a further M1 cycle. -/
def prefixEntry (s : State) : Instr → Option (Instr × State)
  | .prefixCb => some (oneByte 0xCB)
  | .prefixDd => some (oneByte 0xDD)
  | .prefixEd => some (oneByte 0xED)
  | .prefixFd => some (oneByte 0xFD)
  | .prefixDdCb => some (decodeDdCb (s.codeByte 0) (s.codeByte 1), s.advancePc 2)
  | .prefixFdCb => some (decodeFdCb (s.codeByte 0) (s.codeByte 1), s.advancePc 2)
  | _ => none
where
  /-- Decoding continued after one prefix byte. -/
  oneByte (b0 : Byte) : Instr × State :=
    (decodeWindow b0 (s.codeByte 0) (s.codeByte 1) (s.codeByte 2),
      (s.advancePc (windowLength b0 (s.codeByte 0) - 1)).bumpR (windowM1 b0 (s.codeByte 0) - 1))

/-- The parameters of interrupt entry at the costs of 60_exceptions R611 to R615. -/
def standardCosts (c : Config) : Prop := c.nmiCost = 11 ∧ c.im0Cost = 13 ∧ c.im1Cost = 13 ∧ c.im2Cost = 19

/-- What every interrupt entry does to the state but IFF2 and `nmi_pending` (60_exceptions R616): the old PC on the stack, SP down by 2,
PC at `target`, IFF1 clear, the halt ended, `R[6:0]` up by one and `R[7]` kept, the cost added, the two stack bytes stored high byte
first, every other register, the VDP and the rest unchanged. -/
structure EntersInterrupt (s t : State) (target : Word) (cost : Nat) : Prop where
  pc : t.cpu.pc = target
  sp : t.cpu.sp = s.cpu.sp - 2
  iff1 : t.cpu.iff1 = false
  halted : t.cpu.halted = false
  r : t.cpu.r.toNat = s.cpu.r.toNat / 128 * 128 + (s.cpu.r.toNat + 1) % 128
  cycles : t.cpu.cycles = s.cpu.cycles + cost
  stack : t.mapper = storeAll s.cfg.segaCtrlWriteThrough s.mapper [(s.cpu.sp - 1, hiByte s.cpu.pc), (s.cpu.sp - 2, loByte s.cpu.pc)]
  frame : changesOnly s t [.pc, .sp, .iff1, .iff2, .halted, .r, .cycles, .nmiPending, .mapper, .events]

/-- `n` line steps (60_exceptions R630). -/
def lineSteps : Nat → State → State
  | 0, s => s
  | n + 1, s => lineSteps n s.vdpLineStep

/-- The bytes of the instruction at PC, in order. -/
def State.fetchedBytes (s : State) : List Byte := (List.range s.fetchedLength).map s.codeByte

/-- The 86 opcodes of `IDX_OPS` (30_encoding R151). -/
def idxOps : List Byte :=
  [0x09, 0x19, 0x29, 0x39] ++
  [0x21, 0x22, 0x23, 0x2A, 0x2B] ++
  [0x24, 0x25, 0x26, 0x2C, 0x2D, 0x2E] ++
  [0x34, 0x35, 0x36] ++
  [0x44, 0x45, 0x46, 0x4C, 0x4D, 0x4E, 0x54, 0x55, 0x56, 0x5C, 0x5D, 0x5E] ++
  [0x60, 0x61, 0x62, 0x63, 0x64, 0x65, 0x66, 0x67, 0x68, 0x69, 0x6A, 0x6B, 0x6C, 0x6D, 0x6E, 0x6F] ++
  [0x70, 0x71, 0x72, 0x73, 0x74, 0x75, 0x77] ++
  [0x7C, 0x7D, 0x7E] ++
  [0x84, 0x85, 0x86, 0x8C, 0x8D, 0x8E, 0x94, 0x95, 0x96, 0x9C, 0x9D, 0x9E] ++
  [0xA4, 0xA5, 0xA6, 0xAC, 0xAD, 0xAE, 0xB4, 0xB5, 0xB6, 0xBC, 0xBD, 0xBE] ++
  [0xCB] ++
  [0xE1, 0xE3, 0xE5, 0xE9, 0xF9]

end Sys2Proof.Machine
end

