-- ==== Sys2Proof/Certificates/Slice0/Obligations.lean ====
section
/-! DEFINITION. The statements for the provers. Each docstring names the rules of spec/ it rests on. A statement about an instruction holds
in every state; where a value is unspecified (10_state R28) nothing is said of it, so the statement holds for every free value. -/

open Sys2Proof Sys2Proof.Machine

/-! ### Encoding -/

/-- Words written out bit by bit from the encodings of the rules 40 to 49 decode to the instructions they stand for (30_encoding R140). -/
def Obligations.DecodesSpecWords : Prop :=
  decode [0b01_000_010] = .ok (.ldRR .b .d, []) ∧
  decode [0b00_01_0001, 0x34, 0x12] = .ok (.ldDdNn .de 0x1234, []) ∧
  decode [0b11_101_011] = .ok (.exDeHl, []) ∧
  decode [0b10_010_110] = .ok (.subMemHl, []) ∧
  decode [0xED, 0b01_10_1010] = .ok (.adcHlSs .hl, []) ∧
  decode [0xCB, 0b00_110_011] = .ok (.sllR .e, []) ∧
  decode [0xDD, 0xCB, 0x05, 0b11_111_000] = .ok (.setMemIxR 7 0x05 .b, []) ∧
  decode [0b11_011_010, 0x20, 0x15] = .ok (.jpCcNn .c 0x1520, []) ∧
  decode [0xED, 0b01_111_001] = .ok (.outCR .a, []) ∧
  decode [0xED, 0b10_111_000] = .ok (.lddr, []) ∧
  decode [0xFD, 0b01_110_110, 0x80] = .ok (.noniFd, [0b01_110_110, 0x80])

/-- Decoding the encoding of a well-formed instruction gives the instruction and the bytes after it, whatever they are: no bit of an
operand is dropped. A NONI is read as one only where the byte after it is outside `IDX_OPS` (30_encoding R140 to R163). That the bytes of a
prefix row alone decode to that row, the second clause, is no rule of the spec but the model's choice (log 13). -/
def Obligations.DecodeOfEncode : Prop :=
  (∀ (i : Instr) (rest : List Byte), i.wf = true → isPrefixRow i = false →
    (i = .noniDd ∨ i = .noniFd → ∃ b more, rest = b :: more ∧ b ∉ idxOps) → decode (encode i ++ rest) = .ok (i, rest)) ∧
  (∀ i : Instr, isPrefixRow i = true → decode (encode i) = .ok (i, []))

/-- Every four bytes hold a well-formed instruction that is no prefix row, and its encoding is exactly the bytes it takes: nothing is
refused, no two instructions share a word (30_encoding R142, R161). -/
def Obligations.EveryWindowEncodesBack : Prop :=
  ∀ b0 b1 b2 b3 : Byte,
    (decodeWindow b0 b1 b2 b3).wf = true ∧ isPrefixRow (decodeWindow b0 b1 b2 b3) = false ∧
      encode (decodeWindow b0 b1 b2 b3) = [b0, b1, b2, b3].take (windowLength b0 b1)

/-- A DD or FD byte is an instruction of its own, of one byte, exactly when the next byte is outside the 86 values of `IDX_OPS`
(30_encoding R151, R152). -/
def Obligations.NoniExactlyOutsideIdxOps : Prop :=
  idxOps.length = 86 ∧
  ∀ b1 b2 b3 : Byte,
    (decodeWindow 0xDD b1 b2 b3 = .noniDd ↔ b1 ∉ idxOps) ∧ (decodeWindow 0xFD b1 b2 b3 = .noniFd ↔ b1 ∉ idxOps) ∧
      (b1 ∉ idxOps → windowLength 0xDD b1 = 1 ∧ windowLength 0xFD b1 = 1)

/-! ### The step -/

/-- A step that is the CPU's, the CPU not halted, runs the instruction that the four bytes at PC decode to, in the state with PC past its
bytes and `R[6:0]` up by its opcode fetches, and consults the interrupt unit afterwards (30_encoding R141; 10_state R25, R30;
60_exceptions R650): two for a CB or ED prefix and for a DD or FD before an opcode of `IDX_OPS`, else one. That one step of the model is
one CPU step is the model's choice (log 10); that all four bytes are read before the decoding is read from the spec (log 14). -/
def Obligations.StepRunsDecodedInstruction : Prop :=
  ∀ (s u : State) (i : Instr) (rest : List Byte), s.cpu.cycles < s.vdp.vdpCycles * 2 / 3 → s.cpu.halted = false →
    decode [s.memRead s.cpu.pc, s.memRead (s.cpu.pc + 1), s.memRead (s.cpu.pc + 2), s.memRead (s.cpu.pc + 3)] = .ok (i, rest) →
    u = { s with
      cpu.pc := s.cpu.pc + BitVec.ofNat 16 (4 - rest.length)
      cpu.r := trunc8 (s.cpu.r.toNat / 128 * 128 +
        (s.cpu.r.toNat +
          (if s.memRead s.cpu.pc ∈ [0xCB, 0xED] ∨
              s.memRead s.cpu.pc ∈ [0xDD, 0xFD] ∧ s.memRead (s.cpu.pc + 1) ∈ idxOps then 2 else 1)) % 128) } →
    step s = bindOut (exec i u) State.interruptResolve

/-- Whose turn a step is: one line of the VDP when `cycles` has reached `floor(vdp_cycles * 2 / 3)`, else the CPU's; a halted CPU fetches
nothing, counts one in `R[6:0]`, costs 4 cycles and consults the interrupt unit (60_exceptions R650, R651; 44_general_control R366).
That one step of the model is one agent's step is the model's choice (log 10). -/
def Obligations.StepTakesTurns : Prop :=
  ∀ s : State,
    (s.vdp.vdpCycles * 2 / 3 ≤ s.cpu.cycles → step s = .next s.vdpLineStep) ∧
    (s.cpu.cycles < s.vdp.vdpCycles * 2 / 3 → s.cpu.halted = true →
      step s = State.interruptResolve { s with
        cpu.r := trunc8 (s.cpu.r.toNat / 128 * 128 + (s.cpu.r.toNat + 1) % 128)
        cpu.cycles := s.cpu.cycles + 4 })

/-! ### Interrupts -/

/-- The interrupt unit at a boundary: `int_inhibit` defers everything once, then NMI, then a maskable interrupt if IFF1 is set and the
VDP's line is asserted, the line being the two pending bits under their enables (60_exceptions R610, R612, R620). -/
def Obligations.InterruptPriority : Prop :=
  ∀ s : State,
    (s.cpu.intInhibit = true → s.interruptResolve = .next { s with cpu.intInhibit := false }) ∧
    (s.cpu.intInhibit = false → s.cpu.nmiPending = true → s.interruptResolve = .next s.nmiEntry) ∧
    (s.cpu.intInhibit = false → s.cpu.nmiPending = false →
      ((s.cpu.iff1 = true ∧ (s.vdp.status.frameInt = true ∧ s.vdp.reg[1].getLsbD 5 = true ∨
          s.vdp.status.lineInt = true ∧ s.vdp.reg[0].getLsbD 4 = true)) → s.interruptResolve = s.maskableEntry) ∧
      (¬(s.cpu.iff1 = true ∧ (s.vdp.status.frameInt = true ∧ s.vdp.reg[1].getLsbD 5 = true ∨
          s.vdp.status.lineInt = true ∧ s.vdp.reg[0].getLsbD 4 = true)) → s.interruptResolve = .next s))

/-- NMI entry: serviced at the next boundary without an inhibit; the old PC pushed, PC at the NMI vector, IFF1 clear, IFF2 untouched, the
request cleared, the halt ended, R counted, the cost charged, nothing else changed; by default vector 0x0066 and cost 11,
which are the spec's decisions D13 and D14 (60_exceptions R611, R616). -/
def Obligations.NmiEntrySavesPcAndJumps : Prop :=
  (∀ s : State, EntersInterrupt s s.nmiEntry s.cfg.nmiVector s.cfg.nmiCost ∧ s.nmiEntry.cpu.iff2 = s.cpu.iff2 ∧
    s.nmiEntry.cpu.nmiPending = false ∧
    (s.cpu.intInhibit = false → s.cpu.nmiPending = true → s.interruptResolve = .next s.nmiEntry)) ∧
  ({} : Config).nmiVector = 0x0066 ∧ ({} : Config).nmiCost = 11

/-- Maskable entry by mode: mode 0 with a supplied RST goes to its target, mode 1 to the fixed vector, mode 2 to the word that `I` and the
bus byte point at, read before the push; IFF1 and IFF2 are clear (60_exceptions R612 to R616). Mode 0 with a bus byte that is no RST is
refused (R613: "a configuration with `INT_BUS_BYTE` not of that form is refused by the model"), which the model does when such an
interrupt would be taken (log 12). -/
def Obligations.MaskableEntryByMode : Prop :=
  ∀ s : State,
    (s.cpu.im = .im0 → s.cfg.intBusByte.toNat % 8 = 7 → 192 ≤ s.cfg.intBusByte.toNat →
      ∃ t, s.maskableEntry = .next t ∧ EntersInterrupt s t (trunc16 (s.cfg.intBusByte.toNat / 8 % 8 * 8)) s.cfg.im0Cost ∧
        t.cpu.iff2 = false ∧ t.cpu.nmiPending = s.cpu.nmiPending) ∧
    (s.cpu.im = .im0 → ¬(s.cfg.intBusByte.toNat % 8 = 7 ∧ 192 ≤ s.cfg.intBusByte.toNat) →
      s.maskableEntry = .refused (.mode0BusByteNotRst s.cfg.intBusByte)) ∧
    (s.cpu.im = .im1 → ∃ t, s.maskableEntry = .next t ∧ EntersInterrupt s t s.cfg.im1Vector s.cfg.im1Cost ∧
        t.cpu.iff2 = false ∧ t.cpu.nmiPending = s.cpu.nmiPending) ∧
    (s.cpu.im = .im2 → ∃ t, s.maskableEntry = .next t ∧
        EntersInterrupt s t (wordOf (s.memRead (wordOf s.cpu.i s.cfg.intBusByte + 1)) (s.memRead (wordOf s.cpu.i s.cfg.intBusByte)))
          s.cfg.im2Cost ∧
        t.cpu.iff2 = false ∧ t.cpu.nmiPending = s.cpu.nmiPending)

/-- The step that runs `EI` takes no interrupt, whatever is pending: it ends with both flip-flops set, PC one past, the inhibit bit used up
(44_general_control R368; 60_exceptions R610; 70_reset_and_hazards R711). -/
def Obligations.NoInterruptRightAfterEi : Prop :=
  ∀ s : State, s.cpu.cycles < s.vdp.vdpCycles * 2 / 3 → s.cpu.halted = false → s.memRead s.cpu.pc = 0xFB →
    ∃ t, step s = .next t ∧ t.cpu.pc = s.cpu.pc + 1 ∧ t.cpu.iff1 = true ∧ t.cpu.iff2 = true ∧ t.cpu.cycles = s.cpu.cycles + 4 ∧
      changesOnly s t [.pc, .r, .iff1, .iff2, .intInhibit, .cycles] ∧ t.cpu.intInhibit = false

/-! ### Invariants -/

/-- Every step keeps the invariants of the session: the ROM and RAM pages, the slot table and mask as the remap function gives them, the
canonical form of every memory, the number of cartridge RAM banks, `v` below `TOTAL_LINES` (10_state R40 to R44, R57). -/
def Obligations.StepKeepsInvariant : Prop := ∀ s t : State, s.Inv → step s = .next t → t.Inv

/-- The session right after reset meets the invariants (10_state R61 to R64). That `State.reset` is a Sega session over eight ROM pages with
no byte listed is the model's choice (log 3, log 5). -/
def Obligations.ResetMeetsInvariant : Prop := State.reset.Inv

/-- Session construction: a ROM whose length is no positive multiple of 8 KiB is the error with that length; every other ROM gives a fresh
session that meets the invariants: the parameters as given; the ROM image in pages 1 to N, system RAM zero, the mapper registers, the
table and the mask at their reset values; PC, I, R, the interrupt state and the cycle counter 0, every other register at `INIT_GPR`;
every register, counter, latch and byte of the VDP 0; the input latches 0xFF; the event history empty; and the one event it emits
flags a number of pages that is no power of two (60_exceptions R600; 10_state R40, R44, R61 to R64; 20_memory R96). That the
event goes to the sink beside the empty history is the model's choice (log 26). -/
def Obligations.NewSessionState : Prop :=
  ∀ (cfg : Config) (variant : Variant) (rom : List Byte),
    (rom.length = 0 ∨ rom.length % 8192 ≠ 0 → newSession cfg variant rom = .error (.invalidRomSize rom.length)) ∧
    (rom.length ≠ 0 → rom.length % 8192 = 0 → ∃ s ev, newSession cfg variant rom = .ok (s, ev) ∧ s.Inv ∧ s.cfg = cfg ∧
      FreshMapper cfg.cartRamBanks variant rom s.mapper ∧ FreshCpu cfg.initGpr s ∧ FreshVdp s.vdp ∧
      s.joypad0 = 0xFF ∧ s.joypad1 = 0xFF ∧ s.events = [] ∧
      ((∃ k, rom.length / 8192 = 2 ^ k) → ev = []) ∧
      ((¬∃ k, rom.length / 8192 = 2 ^ k) → ev = [.nonPowerOfTwoBanks (rom.length / 8192)]))

/-- No step changes a byte of a ROM page or the number of ROM pages (10_state R40). -/
def Obligations.RomNeverChanges : Prop :=
  ∀ (s t : State) (p o : Nat), s.Inv → step s = .next t → 1 ≤ p → p ≤ s.mapper.romPages →
    t.mapper.pageByte p o = s.mapper.pageByte p o ∧ t.mapper.romPages = s.mapper.romPages

/-- The slot table indexes existing pages only, a writable slot maps system RAM or cartridge RAM, never ROM (10_state R40, R41), and a read of
any address outside the pinned window, so of every address on the Codemasters variant, returns the byte at its offset in the page its
slot names (20_memory R80, R94, R115 (c) and (f)). -/
def Obligations.SlotTableAlwaysValid : Prop :=
  (∀ (m : Mapper) (i : Fin 8), m.Inv →
    m.slot[i] < m.pages.length ∧ (m.writable.getLsbD i = true → m.slot[i] = 0 ∨ m.romPages < m.slot[i])) ∧
  (∀ (m : Mapper) (a : Word), (0x400 ≤ a.toNat ∨ ∃ r, m.bank = .codemasters r) →
    m.read a = m.pageByte (m.slot[a.toNat / 8192]'(by have := a.isLt; omega)) (a.toNat % 8192))

/-- On the Sega variant every logical address below 1 KiB reads the first ROM page's byte, whatever bank is selected, and no step changes
what it reads (20_memory R103). -/
def Obligations.BootWindowIsPinned : Prop :=
  ∀ (s t : State) (r : SegaBank) (a : Word), s.Inv → s.mapper.bank = .sega r → a.toNat < 0x400 → step s = .next t →
    s.memRead a = s.mapper.pageByte 1 a.toNat ∧ t.memRead a = s.memRead a

/-! ### The whole machine -/

/-- A step goes on from every state when the bus byte is an RST; the only stop there is is the refusal of another bus byte in mode 0
(60_exceptions R601, R613). -/
def Obligations.OnlyMode0BusByteStops : Prop :=
  ∀ s : State,
    (s.cfg.intBusByte.toNat % 8 = 7 ∧ 192 ≤ s.cfg.intBusByte.toNat → ∃ t, step s = .next t) ∧
    (∀ r, step s = .refused r → r = .mode0BusByteNotRst s.cfg.intBusByte ∧ s.cpu.cycles < s.vdp.vdpCycles * 2 / 3) ∧
    (∀ f, step s ≠ .fault f)

/-- Which instruction a step must have run if a system register changed: I only by `LD I,A`, bit 7 of R only by `LD R,A`, the interrupt
mode only by an `IM`, the shadows only by an exchange; and no step changes the parameters, the input latches or the H counter, or
lowers the cycle count (10_state R22, R29, R30, R32, R36, R53, R58). -/
def Obligations.SystemRegisterWriters : Prop :=
  ∀ s t : State, step s = .next t →
    (t.cpu.i ≠ s.cpu.i → s.fetched = .ldIA) ∧
    (t.cpu.r.getLsbD 7 ≠ s.cpu.r.getLsbD 7 → s.fetched = .ldRA) ∧
    (t.cpu.im ≠ s.cpu.im → s.fetched ∈ [.im0, .im1, .im2, .im1Mirror, .im2Mirror] ∨ ∃ y, s.fetched = .im0Mirror y) ∧
    ((t.cpu.a' ≠ s.cpu.a' ∨ t.cpu.f' ≠ s.cpu.f') → s.fetched = .exAfAf) ∧
    ((t.cpu.bc' ≠ s.cpu.bc' ∨ t.cpu.de' ≠ s.cpu.de' ∨ t.cpu.hl' ≠ s.cpu.hl') → s.fetched = .exx) ∧
    t.cfg = s.cfg ∧ t.joypad0 = s.joypad0 ∧ t.joypad1 = s.joypad1 ∧ t.vdp.h = s.vdp.h ∧ s.cpu.cycles ≤ t.cpu.cycles

/-- A CPU step costs at least 4 cycles, and with the interrupt costs of the spec at most 42 (60_exceptions R650; R652, which the spec
marks as derived). -/
def Obligations.CpuStepCostBounds : Prop :=
  ∀ s t : State, s.cpuStep = .next t →
    s.cpu.cycles + 4 ≤ t.cpu.cycles ∧ (standardCosts s.cfg → t.cpu.cycles ≤ s.cpu.cycles + 42)

/-- The event history is purely observational: a step only adds to it, and a session with another history takes the same step to the
same state but for the history (10_state R60; 20_memory R96). That the history is kept in the state is the model's choice (log 9). -/
def Obligations.EventsAreObservational : Prop :=
  ∀ (s : State) (ev : List Event),
    (∀ t, step s = .next t → ∃ new, t.events = new ++ s.events ∧
      step { s with events := ev } = .next { t with events := new ++ ev }) ∧
    (∀ r, step s = .refused r → step { s with events := ev } = .refused r)

/-- One line step: the frame interrupt on the line after the active region, the line counter, the vertical counter, the scroll latch, the
cycle counter (60_exceptions R630); the sprite bits or-ed with two draws where the render hook runs, and as they were where it does not
(R634); nothing but VDP state and the draws. What the hook draws is free (log 8): nothing is said of `o1` and `o2`. -/
def Obligations.LineStepRule : Prop :=
  ∀ s : State,
    s.vdpLineStep.vdp.status.frameInt = (s.vdp.status.frameInt || decide (s.vdp.v = s.cfg.activeLines)) ∧
    (s.vdp.v ≤ s.cfg.activeLines → s.vdp.lineCounter = 0 →
      s.vdpLineStep.vdp.lineCounter = s.vdp.reg[10] ∧ s.vdpLineStep.vdp.status.lineInt = true) ∧
    (s.vdp.v ≤ s.cfg.activeLines → s.vdp.lineCounter ≠ 0 →
      s.vdpLineStep.vdp.lineCounter.toNat + 1 = s.vdp.lineCounter.toNat ∧
        s.vdpLineStep.vdp.status.lineInt = s.vdp.status.lineInt) ∧
    (s.cfg.activeLines < s.vdp.v →
      s.vdpLineStep.vdp.lineCounter = s.vdp.reg[10] ∧ s.vdpLineStep.vdp.status.lineInt = s.vdp.status.lineInt) ∧
    s.vdpLineStep.vdp.v = (s.vdp.v + 1) % s.cfg.tv.totalLines ∧
    s.vdpLineStep.vdp.vscrollLatch = (if (s.vdp.v + 1) % s.cfg.tv.totalLines = 0 then s.vdp.reg[9] else s.vdp.vscrollLatch) ∧
    s.vdpLineStep.vdp.vdpCycles = s.vdp.vdpCycles + s.cfg.vdpCyclesPerLine ∧
    s.vdpLineStep.vdp.reg = s.vdp.reg ∧ s.vdpLineStep.vdp.cram = s.vdp.cram ∧ s.vdpLineStep.vdp.vram = s.vdp.vram ∧
    s.vdpLineStep.vdp.h = s.vdp.h ∧ s.vdpLineStep.vdp.codeAddr = s.vdp.codeAddr ∧
    s.vdpLineStep.vdp.firstWrite = s.vdp.firstWrite ∧ s.vdpLineStep.vdp.readBuffer = s.vdp.readBuffer ∧
    (∃ o1 o2 : Bool, s.vdpLineStep.vdp.status.sprOvf = (s.vdp.status.sprOvf || o1) ∧
      s.vdpLineStep.vdp.status.sprCol = (s.vdp.status.sprCol || o2)) ∧
    ((s.vdp.v + 1) % s.cfg.tv.totalLines ≠ 0 → (s.cfg.renderMode = .frame ∨ s.cfg.activeLines ≤ s.vdp.v) →
      s.vdpLineStep.vdp.status.sprOvf = s.vdp.status.sprOvf ∧ s.vdpLineStep.vdp.status.sprCol = s.vdp.status.sprCol ∧
        s.vdpLineStep.draws = s.draws) ∧
    changesOnly s s.vdpLineStep [.vdp, .draws]

/-- `k` line steps: the vertical counter is up by `k` modulo the total, the VDP's cycles by `k` lines; the frame interrupt is pending
exactly if it was or one of the `k` calls was entered on the line after the active region; a whole frame brings the vertical
counter back (60_exceptions R631, which the spec marks as derived from R630). -/
def Obligations.FrameOfLineSteps : Prop :=
  ∀ (s : State) (k : Nat), s.vdp.v < s.cfg.tv.totalLines →
    (lineSteps k s).vdp.v = (s.vdp.v + k) % s.cfg.tv.totalLines ∧
    (lineSteps k s).vdp.vdpCycles = s.vdp.vdpCycles + s.cfg.vdpCyclesPerLine * k ∧
    ((lineSteps k s).vdp.status.frameInt = true ↔
      s.vdp.status.frameInt = true ∨ ∃ j < k, (s.vdp.v + j) % s.cfg.tv.totalLines = s.cfg.activeLines) ∧
    (lineSteps s.cfg.tv.totalLines s).vdp.v = s.vdp.v ∧
    (s.cfg.activeLines < s.cfg.tv.totalLines →
      ∃ j < s.cfg.tv.totalLines, ∀ j' < s.cfg.tv.totalLines, (s.vdp.v + j') % s.cfg.tv.totalLines = s.cfg.activeLines ↔ j' = j)

/-- `RunFrame` ends from every state that meets the invariants (with an RST on the bus): the vertical counter is back at 0, the CPU has
caught up, the invariants hold, and the VDP has made the line steps left in the frame (60_exceptions R651; R652, which the spec marks as
derived; the fuel of the Lean function is the model's, log 22). -/
def Obligations.RunFrameCompletes : Prop :=
  ∀ s : State, s.Inv → s.cfg.intBusByte.toNat % 8 = 7 → 192 ≤ s.cfg.intBusByte.toNat →
    ∃ t, s.runFrame = .next t ∧ t.vdp.v = 0 ∧ t.vdp.vdpCycles * 2 / 3 ≤ t.cpu.cycles ∧ t.Inv ∧
      t.vdp.vdpCycles = s.vdp.vdpCycles + s.cfg.vdpCyclesPerLine * (s.cfg.tv.totalLines - s.vdp.v)

/-- The overshoot of the scheduler: after a line's catch-up the cycle count is at its target and less than 42 past it, if it was less
than 42 past before (60_exceptions R652, which the spec marks as derived). -/
def Obligations.CatchUpOvershoot : Prop :=
  ∀ s t : State, standardCosts s.cfg → s.cpu.cycles < s.vdp.vdpCycles * 2 / 3 + 42 → s.runLine = .next t →
    t.vdp.vdpCycles * 2 / 3 ≤ t.cpu.cycles ∧ t.cpu.cycles < t.vdp.vdpCycles * 2 / 3 + 42

/-! ### The VDP ports -/

/-- The control port: the first byte into the low half of `code_addr`, the second into the high half; code 0 fills the read buffer and
advances the address, code 2 writes the register the byte's low digit numbers, other codes nothing more (60_exceptions R643, by the
spec's decision D31). -/
def Obligations.VdpControlPort : Prop :=
  ∀ (d : Vdp) (v : Byte),
    (d.firstWrite = false →
      (d.controlWrite v).1 = { d with codeAddr := wordOf (hiByte d.codeAddr) v, firstWrite := true }) ∧
    (d.firstWrite = true → 64 ≤ v.toNat → v.toNat / 64 ≠ 2 →
      (d.controlWrite v).1 = { d with codeAddr := wordOf v (loByte d.codeAddr), firstWrite := false }) ∧
    (d.firstWrite = true → v.toNat / 64 = 2 →
      (d.controlWrite v).1 = { d with
        codeAddr := wordOf v (loByte d.codeAddr)
        firstWrite := false
        reg := d.reg.set (v.toNat % 16) (loByte d.codeAddr) (by omega) }) ∧
    (d.firstWrite = true → v.toNat < 64 →
      (d.controlWrite v).1 = { d with
        codeAddr := trunc16 ((256 * v.toNat + d.codeAddr.toNat % 256 + 1) % 0x4000)
        firstWrite := false
        readBuffer := Memory.read d.vram (256 * v.toNat + d.codeAddr.toNat % 256) })

/-- The data port and the status port: a data write goes to CRAM (code 3) or VRAM and into the read buffer, a data read answers the buffer
and refills it, both clear the first-write toggle, advance the address modulo 0x4000, keep the code and touch nothing else of the VDP;
a status read answers the top three bits and clears all four (60_exceptions R644, R645, by the spec's decisions D31 and D32). -/
def Obligations.VdpDataAndStatusPorts : Prop :=
  ∀ (d : Vdp) (v : Byte),
    (d.dataWrite v).readBuffer = v ∧ (d.dataWrite v).firstWrite = false ∧
    (d.dataWrite v).codeAddr.toNat = d.codeAddr.toNat / 0x4000 * 0x4000 + (d.codeAddr.toNat + 1) % 0x4000 ∧
    (d.codeAddr.toNat / 0x4000 = 3 → (d.dataWrite v).vram = d.vram ∧
      ∀ k : Fin 32, (d.dataWrite v).cram[k] = if k.val = d.codeAddr.toNat % 32 then v else d.cram[k]) ∧
    (d.codeAddr.toNat / 0x4000 ≠ 3 → (d.dataWrite v).cram = d.cram ∧
      (Memory.wf vramSize d.vram = true → ∀ k, Memory.read (d.dataWrite v).vram k =
        if k = d.codeAddr.toNat % 0x4000 then v else Memory.read d.vram k)) ∧
    { d.dataWrite v with
      codeAddr := d.codeAddr, firstWrite := d.firstWrite, readBuffer := d.readBuffer, cram := d.cram, vram := d.vram } = d ∧
    d.dataRead.1 = d.readBuffer ∧ d.dataRead.2.readBuffer = Memory.read d.vram (d.codeAddr.toNat % 0x4000) ∧
    d.dataRead.2.firstWrite = false ∧
    d.dataRead.2.codeAddr.toNat = d.codeAddr.toNat / 0x4000 * 0x4000 + (d.codeAddr.toNat + 1) % 0x4000 ∧
    { d.dataRead.2 with codeAddr := d.codeAddr, firstWrite := d.firstWrite, readBuffer := d.readBuffer } = d ∧
    d.statusRead.1.toNat = 128 * d.status.frameInt.toNat + 64 * d.status.sprOvf.toNat + 32 * d.status.sprCol.toNat ∧
    d.statusRead.2 = { d with firstWrite := false, status := ⟨false, false, false, false⟩ }

/-- The read side of the port map, by bits 7, 6 and 0 of the port: 0xFF, the V counter, the H counter (any byte), the VDP data and
status ports, the two input latches (60_exceptions R640, R647, R648). -/
def Obligations.IoReadMap : Prop :=
  ∀ (s : State) (port : Word), s.vdp.v < s.cfg.tv.totalLines →
    (port.toNat / 64 % 4 = 0 → s.ioRead port = (0xFF, s)) ∧
    (port.toNat / 64 % 4 = 1 → port.toNat % 2 = 0 → (s.ioRead port).2 = s ∧
      (s.cfg.tv = .ntsc → (s.ioRead port).1.toNat = if s.vdp.v ≤ 0xDA then s.vdp.v else s.vdp.v - 6) ∧
      (s.cfg.tv = .pal → (s.ioRead port).1.toNat = if s.vdp.v ≤ 0xF2 then s.vdp.v else (s.vdp.v - 57) % 256)) ∧
    (port.toNat / 64 % 4 = 1 → port.toNat % 2 = 1 → changesOnly s (s.ioRead port).2 [.draws]) ∧
    (port.toNat / 64 % 4 = 2 → port.toNat % 2 = 0 →
      s.ioRead port = (s.vdp.readBuffer, { s with vdp := s.vdp.dataRead.2 })) ∧
    (port.toNat / 64 % 4 = 2 → port.toNat % 2 = 1 →
      s.ioRead port = (s.vdp.status.visible,
        { s with vdp := { s.vdp with firstWrite := false, status := ⟨false, false, false, false⟩ } })) ∧
    (port.toNat / 64 % 4 = 3 → s.ioRead port = (if port.toNat % 2 = 0 then s.joypad0 else s.joypad1, s))

/-- The write side of the port map: ignored, the sound port's event with the cycle count, the VDP data and control ports, ignored
(60_exceptions R641, R646). -/
def Obligations.IoWriteMap : Prop :=
  ∀ (s : State) (port : Word) (v : Byte),
    (port.toNat / 64 % 4 = 0 ∨ port.toNat / 64 % 4 = 3 → s.ioWrite port v = s) ∧
    (port.toNat / 64 % 4 = 1 → s.ioWrite port v = { s with events := .soundWrite s.cpu.cycles v :: s.events }) ∧
    (port.toNat / 64 % 4 = 2 → port.toNat % 2 = 0 → s.ioWrite port v = { s with vdp := s.vdp.dataWrite v }) ∧
    (port.toNat / 64 % 4 = 2 → port.toNat % 2 = 1 →
      (s.ioWrite port v).vdp = (s.vdp.controlWrite v).1 ∧ changesOnly s (s.ioWrite port v) [.vdp, .events])

/-! ### The mapper -/

/-- A write to an ordinary address: into a writable slot the byte reads back there, every other physical byte stays, mapped now or not, and
so does what every other logical address reads, and the event names the place; into any other slot nothing changes and exactly one
`InvalidWrite` is emitted (20_memory R89, R95, R96, R120). -/
def Obligations.OrdinaryWriteRule : Prop :=
  ∀ (m : Mapper) (through : Bool) (a : Word) (v : Byte), m.Inv → m.isControl a = false →
    (m.writable.getLsbD (a.toNat / 8192) = true →
      (m.write through a v).1.read a = v ∧
      (∀ p o, (p, o) ≠ (m.slot[slotOf a], a.toNat % 8192) → (m.write through a v).1.pageByte p o = m.pageByte p o) ∧
      (∀ b, m.resolve b ≠ (m.slot[slotOf a], a.toNat % 8192) → (m.write through a v).1.read b = m.read b) ∧
      (m.write through a v).1.slot = m.slot ∧ (m.write through a v).1.writable = m.writable ∧
      (m.write through a v).1.bank = m.bank ∧ (m.write through a v).1.pages.length = m.pages.length ∧
      (m.write through a v).2 = [.write a (m.slot[slotOf a]) (a.toNat % 8192) v]) ∧
    (m.writable.getLsbD (a.toNat / 8192) = false → m.write through a v = (m, [.invalidWrite a v]))

/-- A Sega control write: the register takes the byte, the table and the mask become those of the remap function, two zero-filled pages are
appended exactly when the bank now mapped has none, no other bank and no byte of a page changes, and the events say so. With
`SEGA_CTRL_WRITE_THROUGH` the byte then also goes the ordinary path: it is stored in system RAM, where its address reads it back, with
one more event and nothing else changed (20_memory R93, R95, R100, R102, R104; 10_state R44). A bank number beyond
`CART_RAM_BANKS` maps no RAM, which is the model's choice (log 25). -/
def Obligations.SegaControlWriteRule : Prop :=
  ∀ (m : Mapper) (r : SegaBank) (a : Word) (v : Byte), m.bank = .sega r → 0xFFFC ≤ a.toNat →
    (∃ r' b, (m.write false a v).1.bank = .sega r' ∧ r'.ctl = r.ctl.set (a.toNat - 0xFFFC) v ∧ b = r'.ctl0.toNat / 4 % 2 ∧
      SegaTable (m.write false a v).1 r' ∧ (m.write false a v).1.romPages = m.romPages ∧
      (∀ p o, (m.write false a v).1.pageByte p o = m.pageByte p o) ∧
      (r'.ctl0.toNat / 8 % 2 = 1 ∧ r.ram[b]? = some none →
        (m.write false a v).1.pages = m.pages ++ [[], []] ∧ r'.ram = r.ram.set b (some m.pages.length) ∧
        (m.write false a v).2 = [.ramAllocated b m.pages.length, .controlWrite (a.toNat - 0xFFFC) v,
          .remap (m.write false a v).1.slot (m.write false a v).1.writable]) ∧
      (¬(r'.ctl0.toNat / 8 % 2 = 1 ∧ r.ram[b]? = some none) →
        (m.write false a v).1.pages = m.pages ∧ r'.ram = r.ram ∧
        (m.write false a v).2 = [.controlWrite (a.toNat - 0xFFFC) v,
          .remap (m.write false a v).1.slot (m.write false a v).1.writable])) ∧
    ((m.write true a v).1 = { (m.write false a v).1 with pages := (m.write true a v).1.pages } ∧
      (m.write true a v).1.pages.length = (m.write false a v).1.pages.length ∧
      (∀ p o, (p, o) ≠ (0, a.toNat % 8192) → (m.write true a v).1.pageByte p o = m.pageByte p o) ∧
      (m.Inv → (m.write true a v).1.pageByte 0 (a.toNat % 8192) = v ∧ (m.write true a v).1.read a = v) ∧
      (m.write true a v).2 = (m.write false a v).2 ++ [.write a 0 (a.toNat % 8192) v])

/-- A Codemasters control write, at exactly 0x0000, 0x4000 or 0x8000: the register takes the byte, the table and the mask become those of
the remap function, one zero-filled page is appended the first time bit 7 of `ctl[1]` is set, no byte of a page changes, and the
events say so; `SEGA_CTRL_WRITE_THROUGH` has no part in it (20_memory R93, R95, R104, R110, R112; 10_state R44). With no bank at all
the bit maps no RAM, which is the model's choice (log 25). -/
def Obligations.CodemastersControlWriteRule : Prop :=
  ∀ (m m' : Mapper) (ev : List Event) (r : CodemastersBank) (through : Bool) (g : Nat) (v : Byte),
    m.bank = .codemasters r → g < 3 → m.write through (trunc16 (0x4000 * g)) v = (m', ev) →
    ∃ r', m'.bank = .codemasters r' ∧ r'.ctl = r.ctl.set g v ∧ CodemastersTable m' r' ∧ m'.romPages = m.romPages ∧
      (∀ p o, m'.pageByte p o = m.pageByte p o) ∧
      (r'.ctl1.toNat / 128 = 1 ∧ r.ram[0]? = some none →
        m'.pages = m.pages ++ [[]] ∧ r'.ram = r.ram.set 0 (some m.pages.length) ∧
        ev = [.ramAllocated 0 m.pages.length, .controlWrite g v, .remap m'.slot m'.writable]) ∧
      (¬(r'.ctl1.toNat / 128 = 1 ∧ r.ram[0]? = some none) →
        m'.pages = m.pages ∧ r'.ram = r.ram ∧ ev = [.controlWrite g v, .remap m'.slot m'.writable])

/-- Control writes are idempotent: the same byte written twice leaves what writing it once leaves; and, under the invariants, a control
write that leaves the registers as they are changes nothing. Where a Sega control write also goes the ordinary path
(`SEGA_CTRL_WRITE_THROUGH`), the first holds under the invariants, the second if its address holds the byte already
(20_memory R95, R102, R115). -/
def Obligations.ControlWriteIdempotent : Prop :=
  ∀ (m : Mapper) (through : Bool) (a : Word) (v : Byte), m.isControl a = true →
    (through = false ∨ m.Inv → ((m.write through a v).1.write through a v).1 = (m.write through a v).1) ∧
    (m.Inv → (m.write through a v).1.bank = m.bank →
      (through = false ∨ m.read a = v ∨ ∃ r, m.bank = .codemasters r) → (m.write through a v).1 = m)

/-- Cartridge RAM persists across bank switches: a byte stored while cartridge RAM is mapped, in slot group 2 on the Sega variant and in
slot 5 on Codemasters, is read again after any control writes whatever, once `ctl[0]` selects the same bank again (Sega, with and
without `SEGA_CTRL_WRITE_THROUGH`) or bit 7 of `ctl[1]` is set again (Codemasters) (20_memory R104, R110, R115). -/
def Obligations.CartridgeRamPersists : Prop :=
  (∀ (m : Mapper) (r : SegaBank) (through : Bool) (a : Word) (v : Byte) (ws : List (Word × Byte)), m.Inv → m.bank = .sega r →
    r.ctl0.toNat / 8 % 2 = 1 → r.ctl0.toNat / 4 % 2 < r.ram.length → 0x8000 ≤ a.toNat → a.toNat < 0xC000 →
    (∀ w ∈ ws, 0xFFFC ≤ w.1.toNat) →
    (storeAll through m ([(a, v)] ++ ws ++ [(0xFFFC, r.ctl0)])).read a = v) ∧
  (∀ (m : Mapper) (r : CodemastersBank) (through : Bool) (a : Word) (v : Byte) (ws : List (Word × Byte)), m.Inv →
    m.bank = .codemasters r → r.ctl1.toNat / 128 = 1 → 0 < r.ram.length → 0xA000 ≤ a.toNat → a.toNat < 0xC000 →
    (∀ w ∈ ws, w.1 ∈ [0x0000, 0x4000, 0x8000]) →
    (storeAll through m ([(a, v)] ++ ws ++ [(0x4000, r.ctl1)])).read a = v)

/-! ### Every instruction: completion, frame, stores -/

/-- Every instruction answers a next state in every state, and the cycle count is up by its cost (60_exceptions R601; the column `cycles` of
the opcode table; 70_reset_and_hazards R721). Prefix rows have a statement of their own. -/
def Obligations.EveryInstructionCompletes : Prop :=
  ∀ (i : Instr) (s : State), isPrefixRow i = false →
    ∃ t, exec i s = .next t ∧ t.cpu.cycles = s.cpu.cycles + cycleCost s i

/-- What every instruction leaves unchanged: every register, every flag and every other part of the session outside the table
`writtenParts` (10_state R27, R28 and the "Flags" lines of the rules 40 to 49). The part `draws` is the model's own counter of free values
(log 6). -/
def Obligations.InstructionFrame : Prop :=
  ∀ (i : Instr) (s t : State), isPrefixRow i = false → exec i s = .next t → changesOnly s t (.cycles :: writtenParts s.cfg i)

/-- What every instruction stores: exactly the bytes of `storesOf`, at those addresses, in that order, each through the mapper
(20_memory R85, R86, R95 and the operations of the rules 40 to 49). -/
def Obligations.InstructionStores : Prop :=
  ∀ (i : Instr) (s t : State), isPrefixRow i = false → exec i s = .next t →
    t.mapper = storeAll s.cfg.segaCtrlWriteThrough s.mapper (storesOf s i)

/-- Every byte an instruction does not store to reads as before: for an instruction whose stores go to ordinary addresses, every logical
address that resolves to none of the bytes stored to; for one that stores nothing, every address (20_memory R89). -/
def Obligations.UnstoredBytesUnchanged : Prop :=
  ∀ (i : Instr) (s t : State), isPrefixRow i = false → exec i s = .next t →
    (∀ w ∈ storesOf s i, s.mapper.isControl w.1 = false) →
    ∀ b : Word, (∀ w ∈ storesOf s i, s.mapper.storeTarget w.1 ≠ some (s.mapper.resolve b)) → t.memRead b = s.memRead b

/-- A prefix row continues the decoding: it fetches the rest of the instruction it leads to, which is no prefix row, and runs it to a next
state (30_encoding R141, R152, R153, R163). That the table's prefix rows are instructions of their own is the model's choice (log 13). -/
def Obligations.PrefixRowRunsItsEntry : Prop :=
  ∀ (i : Instr) (s : State), isPrefixRow i = true →
    ∃ j u t, prefixEntry s i = some (j, u) ∧ isPrefixRow j = false ∧ exec i s = .next t ∧ exec j u = .next t

/-! ### Loads, stores, exchanges -/

/-- The 8-bit loads into a register: the destination takes the operand, every other register and every flag stays; the loads of an index
half and between registers and index halves likewise (40_load8 R201 to R205, R212 to R214, R222 to R224). -/
def Obligations.ByteLoads : Prop :=
  (∀ (i : Instr) (s : State) (dst : Reg8) (v : Byte), loadForm s i = some (dst, v) →
    ∃ t, exec i s = .next t ∧ t.getR8 dst = v ∧ (∀ q, q ≠ dst → t.getR8 q = s.getR8 q) ∧ t.cpu.f = s.cpu.f) ∧
  (∀ (s : State) (h : Half) (n : Byte),
    (∃ t, exec (.ldIxHalfN h n) s = .next t ∧ getHalf t.cpu.ix h = n ∧ t.cpu.f = s.cpu.f ∧
      ∀ k, k ≠ h → getHalf t.cpu.ix k = getHalf s.cpu.ix k) ∧
    (∃ t, exec (.ldIyHalfN h n) s = .next t ∧ getHalf t.cpu.iy h = n ∧ t.cpu.f = s.cpu.f ∧
      ∀ k, k ≠ h → getHalf t.cpu.iy k = getHalf s.cpu.iy k)) ∧
  (∀ (s : State) (dst src : RegP),
    (∃ t, exec (.ldPPIx dst src) s = .next t ∧ t.getRegP t.cpu.ix dst = s.getRegP s.cpu.ix src ∧ t.cpu.f = s.cpu.f ∧
      ∀ q, q ≠ dst → t.getRegP t.cpu.ix q = s.getRegP s.cpu.ix q) ∧
    (∃ t, exec (.ldPPIy dst src) s = .next t ∧ t.getRegP t.cpu.iy dst = s.getRegP s.cpu.iy src ∧ t.cpu.f = s.cpu.f ∧
      ∀ q, q ≠ dst → t.getRegP t.cpu.iy q = s.getRegP s.cpu.iy q))

/-- The loads of and from I and R: `LD A,I` and `LD A,R` set S and Z from the byte, PV from IFF2, clear H and N and keep C; `LD I,A` and
`LD R,A` load all eight bits (40_load8 R218 to R221). -/
def Obligations.InterruptAndRefreshLoads : Prop :=
  ∀ s : State,
    (∃ t, exec .ldAI s = .next t ∧ t.cpu.a = s.cpu.i ∧ SignZero s.cpu.i t.cpu.f ∧ t.cpu.f.pv = s.cpu.iff2 ∧
      t.cpu.f.h = false ∧ t.cpu.f.n = false ∧ t.cpu.f.c = s.cpu.f.c) ∧
    (∃ t, exec .ldAR s = .next t ∧ t.cpu.a = s.cpu.r ∧ SignZero s.cpu.r t.cpu.f ∧ t.cpu.f.pv = s.cpu.iff2 ∧
      t.cpu.f.h = false ∧ t.cpu.f.n = false ∧ t.cpu.f.c = s.cpu.f.c) ∧
    (∃ t, exec .ldIA s = .next t ∧ t.cpu.i = s.cpu.a ∧ t.cpu.f = s.cpu.f) ∧
    (∃ t, exec .ldRA s = .next t ∧ t.cpu.r = s.cpu.a ∧ t.cpu.f = s.cpu.f)

/-- The 8-bit and 16-bit stores: no register or flag changes, the bytes go through the mapper, low byte first; in ordinary writable memory
they read back (40_load8 R206 to R211, R215 to R217; 41_load16_stack R248 to R251; 20_memory R86). -/
def Obligations.StoresWriteTheirBytes : Prop :=
  (∀ (i : Instr) (s : State) (a : Word) (v : Byte), storeForm s i = some (a, v) →
    ∃ t, exec i s = .next t ∧ t.mapper = (s.mapper.write s.cfg.segaCtrlWriteThrough a v).1 ∧
      t.cpu = { s.cpu with cycles := t.cpu.cycles } ∧
      (s.mapper.Inv → s.mapper.isControl a = false → s.mapper.writable.getLsbD (slotOf a) = true → t.memRead a = v)) ∧
  (∀ (i : Instr) (s : State) (a v : Word), storeWordForm s i = some (a, v) →
    ∃ t, exec i s = .next t ∧
      t.mapper = storeAll s.cfg.segaCtrlWriteThrough s.mapper [(a, trunc8 v.toNat), (a + 1, trunc8 (v.toNat / 256))] ∧
      t.cpu = { s.cpu with cycles := t.cpu.cycles } ∧
      (s.mapper.Inv → s.mapper.isControl a = false → s.mapper.isControl (a + 1) = false →
        s.mapper.writable.getLsbD (slotOf a) = true → s.mapper.writable.getLsbD (slotOf (a + 1)) = true →
        (t.memRead a).toNat + 256 * (t.memRead (a + 1)).toNat = v.toNat))

/-- The 16-bit loads: the register takes the operand, low byte from the lower address, every other 16-bit register, A and F stay
(41_load16_stack R241 to R247, R252, R254, R255). -/
def Obligations.WordLoads : Prop :=
  ∀ (i : Instr) (s : State) (dst : Reg16) (v : Word), loadWordForm s i = some (dst, v) →
    ∃ t, exec i s = .next t ∧ t.reg16 dst = v ∧ (∀ q, q ≠ dst → t.reg16 q = s.reg16 q) ∧ t.cpu.a = s.cpu.a ∧ t.cpu.f = s.cpu.f

/-- The stack: a push stores the high byte at SP-1, then the low byte at SP-2, and lowers SP by 2; a pop reads the low byte at SP and the
high byte at SP+1 and raises SP by 2; `POP AF` loads all of F; what a push into ordinary writable memory stores is on top
(41_load16_stack R253, R256 to R261). -/
def Obligations.PushAndPop : Prop :=
  (∀ (i : Instr) (s : State) (v : Word), pushForm s i = some v →
    ∃ t, exec i s = .next t ∧ t.cpu.sp = s.cpu.sp - 2 ∧
      t.mapper = storeAll s.cfg.segaCtrlWriteThrough s.mapper [(s.cpu.sp - 1, hiByte v), (s.cpu.sp - 2, loByte v)] ∧
      (s.mapper.Inv → s.mapper.isControl (s.cpu.sp - 1) = false → s.mapper.isControl (s.cpu.sp - 2) = false →
        s.mapper.writable.getLsbD (slotOf (s.cpu.sp - 1)) = true → s.mapper.writable.getLsbD (slotOf (s.cpu.sp - 2)) = true →
        wordOf (t.memRead (t.cpu.sp + 1)) (t.memRead t.cpu.sp) = v)) ∧
  (∀ (qq : PairQ) (s : State), ∃ t, exec (.popQq qq) s = .next t ∧
    t.getPairQ qq = wordOf (s.memRead (s.cpu.sp + 1)) (s.memRead s.cpu.sp) ∧ t.cpu.sp = s.cpu.sp + 2) ∧
  (∀ s : State, ∃ t, exec .popIx s = .next t ∧
    t.cpu.ix = wordOf (s.memRead (s.cpu.sp + 1)) (s.memRead s.cpu.sp) ∧ t.cpu.sp = s.cpu.sp + 2) ∧
  (∀ s : State, ∃ t, exec .popIy s = .next t ∧
    t.cpu.iy = wordOf (s.memRead (s.cpu.sp + 1)) (s.memRead s.cpu.sp) ∧ t.cpu.sp = s.cpu.sp + 2)

/-- The exchanges: AF with its shadow, the three pairs with theirs, DE with HL, the word on top of the stack with HL, IX or IY, SP kept
(42_exchange_block R281 to R286). -/
def Obligations.Exchanges : Prop :=
  ∀ s : State,
    (∃ t, exec .exAfAf s = .next t ∧ t.cpu.a = s.cpu.a' ∧ t.cpu.f = s.cpu.f' ∧ t.cpu.a' = s.cpu.a ∧ t.cpu.f' = s.cpu.f) ∧
    (∃ t, exec .exx s = .next t ∧ t.bc = s.cpu.bc' ∧ t.de = s.cpu.de' ∧ t.hl = s.cpu.hl' ∧ t.cpu.bc' = s.bc ∧
      t.cpu.de' = s.de ∧ t.cpu.hl' = s.hl) ∧
    (∃ t, exec .exDeHl s = .next t ∧ t.de = s.hl ∧ t.hl = s.de) ∧
    (∃ t, exec .exMemSpHl s = .next t ∧ t.hl = wordOf (s.memRead (s.cpu.sp + 1)) (s.memRead s.cpu.sp) ∧ t.cpu.sp = s.cpu.sp ∧
      t.mapper = storeAll s.cfg.segaCtrlWriteThrough s.mapper [(s.cpu.sp + 1, hiByte s.hl), (s.cpu.sp, loByte s.hl)]) ∧
    (∃ t, exec .exMemSpIx s = .next t ∧ t.cpu.ix = wordOf (s.memRead (s.cpu.sp + 1)) (s.memRead s.cpu.sp) ∧ t.cpu.sp = s.cpu.sp ∧
      t.mapper = storeAll s.cfg.segaCtrlWriteThrough s.mapper [(s.cpu.sp + 1, hiByte s.cpu.ix), (s.cpu.sp, loByte s.cpu.ix)]) ∧
    (∃ t, exec .exMemSpIy s = .next t ∧ t.cpu.iy = wordOf (s.memRead (s.cpu.sp + 1)) (s.memRead s.cpu.sp) ∧ t.cpu.sp = s.cpu.sp ∧
      t.mapper = storeAll s.cfg.segaCtrlWriteThrough s.mapper [(s.cpu.sp + 1, hiByte s.cpu.iy), (s.cpu.sp, loByte s.cpu.iy)])

/-- One iteration of a block transfer: the byte at HL stored at DE, both pointers moved, BC down by one, PV telling whether BC is not 0,
H and N clear; a repeating form sets PC back by 2 unless BC reached 0 (42_exchange_block R287 to R291). -/
def Obligations.BlockTransfers : Prop :=
  ∀ (i : Instr) (s : State) (k : Int) (repeats : Bool),
    (i, k, repeats) ∈ [(Instr.ldi, 1, false), (.ldd, -1, false), (.ldir, 1, true), (.lddr, -1, true)] →
    ∃ t, exec i s = .next t ∧ t.mapper = (s.mapper.write s.cfg.segaCtrlWriteThrough s.de (s.memRead s.hl)).1 ∧
      (t.hl.toNat : Int) = (s.hl.toNat + k) % 65536 ∧ (t.de.toNat : Int) = (s.de.toNat + k) % 65536 ∧
      (t.bc.toNat : Int) = (s.bc.toNat - 1) % 65536 ∧ t.cpu.f.pv = decide (s.bc ≠ 1) ∧ t.cpu.f.h = false ∧ t.cpu.f.n = false ∧
      t.cpu.pc = if repeats = true ∧ s.bc ≠ 1 then s.cpu.pc - 2 else s.cpu.pc

/-- One iteration of a block search: A compared with the byte at HL, the pointer moved, BC down by one, the flags from the difference and PV
from BC; a repeating form sets PC back by 2 unless BC reached 0 or the bytes are equal (42_exchange_block R287, R292 to R295). -/
def Obligations.BlockSearches : Prop :=
  ∀ (i : Instr) (s : State) (k : Int) (repeats : Bool),
    (i, k, repeats) ∈ [(Instr.cpi, 1, false), (.cpd, -1, false), (.cpir, 1, true), (.cpdr, -1, true)] →
    ∃ t r, exec i s = .next t ∧ r = (256 + s.cpu.a.toNat - (s.memRead s.hl).toNat) % 256 ∧
      (t.hl.toNat : Int) = (s.hl.toNat + k) % 65536 ∧ (t.bc.toNat : Int) = (s.bc.toNat - 1) % 65536 ∧
      t.cpu.f.s = decide (128 ≤ r) ∧ t.cpu.f.z = decide (s.cpu.a = s.memRead s.hl) ∧
      t.cpu.f.h = decide (s.cpu.a.toNat % 16 < (s.memRead s.hl).toNat % 16) ∧
      t.cpu.f.pv = decide (s.bc ≠ 1) ∧ t.cpu.f.n = true ∧
      t.cpu.pc = if repeats = true ∧ s.bc ≠ 1 ∧ s.cpu.a ≠ s.memRead s.hl then s.cpu.pc - 2 else s.cpu.pc

/-! ### Arithmetic -/

/-- `add8` and `sub8` on integers: the result modulo 256, carry and half-carry as carries out or borrows, PV as signed overflow, N telling
which (43_alu8 R322, R323). -/
def Obligations.AddAndSubByteRules : Prop :=
  ∀ (a b : Byte) (c : Bool) (u : Flags),
    AddRule a b c (add8 a b c u).1 (add8 a b c u).2 ∧ SubRule a b c (sub8 a b c u).1 (sub8 a b c u).2

/-- `ADD A,s`, `ADC A,s`, `SUB s`, `SBC A,s` and `CP s` in every operand form: A and the six flags by `add8` or `sub8`, with the old carry
for `ADC` and `SBC`; `CP` leaves A alone (43_alu8 R321, R325 to R328, R332, R333). -/
def Obligations.AdditionAndSubtraction : Prop :=
  ∀ (i : Instr) (s : State) (v : Byte),
    (aluForm s i = some (.add, v) → ∃ t, exec i s = .next t ∧ AddRule s.cpu.a v false t.cpu.a t.cpu.f) ∧
    (aluForm s i = some (.adc, v) → ∃ t, exec i s = .next t ∧ AddRule s.cpu.a v s.cpu.f.c t.cpu.a t.cpu.f) ∧
    (aluForm s i = some (.sub, v) → ∃ t, exec i s = .next t ∧ SubRule s.cpu.a v false t.cpu.a t.cpu.f) ∧
    (aluForm s i = some (.sbc, v) → ∃ t, exec i s = .next t ∧ SubRule s.cpu.a v s.cpu.f.c t.cpu.a t.cpu.f) ∧
    (aluForm s i = some (.cp, v) → ∃ t r, exec i s = .next t ∧ SubRule s.cpu.a v false r t.cpu.f ∧ t.cpu.a = s.cpu.a)

/-- `AND s`, `OR s` and `XOR s` in every operand form: A bit by bit, the flags by `logic8`, H set by `AND` alone
(43_alu8 R321, R324, R329 to R331, R333). -/
def Obligations.LogicalOperations : Prop :=
  ∀ (i : Instr) (s : State) (v : Byte),
    (aluForm s i = some (.and, v) → ∃ t, exec i s = .next t ∧ LogicRule t.cpu.a true t.cpu.f ∧
      ∀ k < 8, t.cpu.a.getLsbD k = (s.cpu.a.getLsbD k && v.getLsbD k)) ∧
    (aluForm s i = some (.or, v) → ∃ t, exec i s = .next t ∧ LogicRule t.cpu.a false t.cpu.f ∧
      ∀ k < 8, t.cpu.a.getLsbD k = (s.cpu.a.getLsbD k || v.getLsbD k)) ∧
    (aluForm s i = some (.xor, v) → ∃ t, exec i s = .next t ∧ LogicRule t.cpu.a false t.cpu.f ∧
      ∀ k < 8, t.cpu.a.getLsbD k = (s.cpu.a.getLsbD k ^^ v.getLsbD k))

/-- `INC` and `DEC` of a register, of an index half (the other half kept) and of a byte of memory, C kept; the flags hold even where the
store is discarded (43_alu8 R334 to R343). -/
def Obligations.IncrementAndDecrement : Prop :=
  (∀ (s : State) (r : Reg8),
    (∃ t, exec (.incR r) s = .next t ∧ IncRule (s.getR8 r) (t.getR8 r) s.cpu.f t.cpu.f) ∧
    (∃ t, exec (.decR r) s = .next t ∧ DecRule (s.getR8 r) (t.getR8 r) s.cpu.f t.cpu.f)) ∧
  (∀ (s : State) (h : Half),
    (∃ t, exec (.incIxHalf h) s = .next t ∧ IncRule (getHalf s.cpu.ix h) (getHalf t.cpu.ix h) s.cpu.f t.cpu.f ∧
      ∀ k, k ≠ h → getHalf t.cpu.ix k = getHalf s.cpu.ix k) ∧
    (∃ t, exec (.decIxHalf h) s = .next t ∧ DecRule (getHalf s.cpu.ix h) (getHalf t.cpu.ix h) s.cpu.f t.cpu.f ∧
      ∀ k, k ≠ h → getHalf t.cpu.ix k = getHalf s.cpu.ix k) ∧
    (∃ t, exec (.incIyHalf h) s = .next t ∧ IncRule (getHalf s.cpu.iy h) (getHalf t.cpu.iy h) s.cpu.f t.cpu.f ∧
      ∀ k, k ≠ h → getHalf t.cpu.iy k = getHalf s.cpu.iy k) ∧
    (∃ t, exec (.decIyHalf h) s = .next t ∧ DecRule (getHalf s.cpu.iy h) (getHalf t.cpu.iy h) s.cpu.f t.cpu.f ∧
      ∀ k, k ≠ h → getHalf t.cpu.iy k = getHalf s.cpu.iy k)) ∧
  (∀ (i : Instr) (s : State) (up : Bool) (a : Word), incDecForm s i = some (up, a) →
    ∃ t r, exec i s = .next t ∧ t.mapper = (s.mapper.write s.cfg.segaCtrlWriteThrough a r).1 ∧
      (up = true → IncRule (s.memRead a) r s.cpu.f t.cpu.f) ∧ (up = false → DecRule (s.memRead a) r s.cpu.f t.cpu.f))

/-- `DAA`, `CPL`, `NEG` with its mirrors, `CCF` and `SCF` (44_general_control R360 to R364, R372). -/
def Obligations.AccumulatorAdjustments : Prop :=
  ∀ s : State,
    (∃ t, exec .daa s = .next t ∧
      (s.cpu.f.n = false → t.cpu.a.toNat = (s.cpu.a.toNat + daaAmount s.cpu.a s.cpu.f) % 256 ∧
        t.cpu.f.h = decide (9 < s.cpu.a.toNat % 16)) ∧
      (s.cpu.f.n = true → (t.cpu.a.toNat : Int) = ((s.cpu.a.toNat : Int) - daaAmount s.cpu.a s.cpu.f) % 256 ∧
        t.cpu.f.h = (s.cpu.f.h && decide (s.cpu.a.toNat % 16 < 6))) ∧
      SignZero t.cpu.a t.cpu.f ∧ t.cpu.f.pv = decide (onesCount t.cpu.a % 2 = 0) ∧ t.cpu.f.n = s.cpu.f.n ∧
      t.cpu.f.c = (s.cpu.f.c || decide (0x99 < s.cpu.a.toNat))) ∧
    (∃ t, exec .cpl s = .next t ∧ t.cpu.a.toNat = 255 - s.cpu.a.toNat ∧ t.cpu.f.h = true ∧ t.cpu.f.n = true) ∧
    (∀ (y : BitVec 3) (i : Instr), i ∈ [Instr.neg, .negMirror y] →
      ∃ t, exec i s = .next t ∧ SubRule 0 s.cpu.a false t.cpu.a t.cpu.f) ∧
    (∃ t, exec .ccf s = .next t ∧ t.cpu.f.c = !s.cpu.f.c ∧ t.cpu.f.h = s.cpu.f.c ∧ t.cpu.f.n = false) ∧
    (∃ t, exec .scf s = .next t ∧ t.cpu.f.c = true ∧ t.cpu.f.h = false ∧ t.cpu.f.n = false)

/-- The instructions that act on the CPU's control state alone: `NOP` and the ED no-operations, `HALT`, `DI`, `EI`, the interrupt modes with
their mirrors, the ignored prefixes (44_general_control R365 to R376; 30_encoding R152). -/
def Obligations.ControlInstructions : Prop :=
  ∀ s : State,
    exec .nop s = .next (s.addCycles 4) ∧
    (∀ y z : BitVec 3, exec (.nopEdX0 y z) s = .next (s.addCycles 8) ∧ exec (.nopEdX3 y z) s = .next (s.addCycles 8)) ∧
    (∀ (p q : BitVec 1) (z : BitVec 3) (z2 : BitVec 2), exec (.nopEd77 q) s = .next (s.addCycles 8) ∧
      exec (.nopEd80 p q z) s = .next (s.addCycles 8) ∧ exec (.nopEdA4 p q z2) s = .next (s.addCycles 8)) ∧
    exec .halt s = .next ({ s with cpu.halted := true }.addCycles 4) ∧
    exec .di s = .next ({ s with cpu.iff1 := false, cpu.iff2 := false }.addCycles 4) ∧
    exec .ei s = .next ({ s with cpu.iff1 := true, cpu.iff2 := true, cpu.intInhibit := true }.addCycles 4) ∧
    exec .im0 s = .next ({ s with cpu.im := .im0 }.addCycles 8) ∧
    (∀ y, exec (.im0Mirror y) s = .next ({ s with cpu.im := .im0 }.addCycles 8)) ∧
    exec .im1 s = .next ({ s with cpu.im := .im1 }.addCycles 8) ∧
    exec .im1Mirror s = .next ({ s with cpu.im := .im1 }.addCycles 8) ∧
    exec .im2 s = .next ({ s with cpu.im := .im2 }.addCycles 8) ∧
    exec .im2Mirror s = .next ({ s with cpu.im := .im2 }.addCycles 8) ∧
    exec .noniDd s = .next ({ s with cpu.intInhibit := true }.addCycles 4) ∧
    exec .noniFd s = .next ({ s with cpu.intInhibit := true }.addCycles 4)

/-- The 16-bit arithmetic: `ADD` to HL, IX and IY (S, Z and PV kept; the pair `idx` is the index register itself), `ADC` and `SBC` to HL
with all six flags, `INC` and `DEC` without flags (45_alu16 R391 to R401). -/
def Obligations.WordArithmetic : Prop :=
  (∀ (s : State) (ss : Pair),
    (∃ t, exec (.addHlSs ss) s = .next t ∧ AddWordRule s.hl (s.reg16 (pairReg16 ss)) t.hl s.cpu.f t.cpu.f) ∧
    (∃ t, exec (.adcHlSs ss) s = .next t ∧ AdcWordRule s.hl (s.reg16 (pairReg16 ss)) t.hl s.cpu.f t.cpu.f) ∧
    (∃ t, exec (.sbcHlSs ss) s = .next t ∧ SbcWordRule s.hl (s.reg16 (pairReg16 ss)) t.hl s.cpu.f t.cpu.f) ∧
    (∃ t, exec (.incSs ss) s = .next t ∧ t.cpu.f = s.cpu.f ∧
      (t.reg16 (pairReg16 ss)).toNat = ((s.reg16 (pairReg16 ss)).toNat + 1) % 65536) ∧
    (∃ t, exec (.decSs ss) s = .next t ∧ t.cpu.f = s.cpu.f ∧
      (t.reg16 (pairReg16 ss)).toNat = ((s.reg16 (pairReg16 ss)).toNat + 65535) % 65536)) ∧
  (∀ (s : State) (p : PairI),
    (∃ t v, exec (.addIxPp p) s = .next t ∧ AddWordRule s.cpu.ix v t.cpu.ix s.cpu.f t.cpu.f ∧
      (p, v) ∈ [(.bc, s.bc), (.de, s.de), (.idx, s.cpu.ix), (.sp, s.cpu.sp)]) ∧
    (∃ t v, exec (.addIyRr p) s = .next t ∧ AddWordRule s.cpu.iy v t.cpu.iy s.cpu.f t.cpu.f ∧
      (p, v) ∈ [(.bc, s.bc), (.de, s.de), (.idx, s.cpu.iy), (.sp, s.cpu.sp)])) ∧
  (∀ s : State,
    (∃ t, exec .incIx s = .next t ∧ t.cpu.f = s.cpu.f ∧ t.cpu.ix.toNat = (s.cpu.ix.toNat + 1) % 65536) ∧
    (∃ t, exec .incIy s = .next t ∧ t.cpu.f = s.cpu.f ∧ t.cpu.iy.toNat = (s.cpu.iy.toNat + 1) % 65536) ∧
    (∃ t, exec .decIx s = .next t ∧ t.cpu.f = s.cpu.f ∧ t.cpu.ix.toNat = (s.cpu.ix.toNat + 65535) % 65536) ∧
    (∃ t, exec .decIy s = .next t ∧ t.cpu.f = s.cpu.f ∧ t.cpu.iy.toNat = (s.cpu.iy.toNat + 65535) % 65536))

/-! ### Rotates, shifts, bits -/

/-- The accumulator rotates, S, Z and PV kept, and every rotate and shift of a register, with `shiftflags`
(46_rotate_shift R421 to R434). -/
def Obligations.RegisterShifts : Prop :=
  (∀ (i : Instr) (op : ShiftOp) (s : State), (i, op) ∈ [(Instr.rlca, .rlc), (.rla, .rl), (.rrca, .rrc), (.rra, .rr)] →
    ∃ t, exec i s = .next t ∧ t.cpu.a.toNat = op.result s.cpu.a.toNat s.cpu.f.c.toNat ∧ t.cpu.f.c.toNat = op.out s.cpu.a.toNat ∧
      t.cpu.f.h = false ∧ t.cpu.f.n = false ∧ t.cpu.f.s = s.cpu.f.s ∧ t.cpu.f.z = s.cpu.f.z ∧ t.cpu.f.pv = s.cpu.f.pv) ∧
  (∀ (i : Instr) (s : State) (op : ShiftOp) (r : Reg8), shiftRegForm i = some (op, r) →
    ∃ t, exec i s = .next t ∧ ShiftRule op (s.getR8 r) (t.getR8 r) s.cpu.f t.cpu.f)

/-- The rotates and shifts of a byte of memory, the result copied into a register in the copy forms, and the digit rotates `RLD` and `RRD`:
the store, A and the flags (46_rotate_shift R425 to R437). -/
def Obligations.MemoryShifts : Prop :=
  (∀ (i : Instr) (s : State) (op : ShiftOp) (a : Word) (copy : Option Reg8), shiftMemForm s i = some (op, a, copy) →
    ∃ t r, exec i s = .next t ∧ ShiftRule op (s.memRead a) r s.cpu.f t.cpu.f ∧
      t.mapper = (s.mapper.write s.cfg.segaCtrlWriteThrough a r).1 ∧ ∀ q, copy = some q → t.getR8 q = r) ∧
  (∀ s : State,
    (∃ t r, exec .rld s = .next t ∧ r = 16 * ((s.memRead s.hl).toNat % 16) + s.cpu.a.toNat % 16 ∧
      t.mapper = (s.mapper.write s.cfg.segaCtrlWriteThrough s.hl (trunc8 r)).1 ∧
      t.cpu.a.toNat = 16 * (s.cpu.a.toNat / 16) + (s.memRead s.hl).toNat / 16 ∧ ValueRule t.cpu.a s.cpu.f t.cpu.f) ∧
    (∃ t r, exec .rrd s = .next t ∧ r = 16 * (s.cpu.a.toNat % 16) + (s.memRead s.hl).toNat / 16 ∧
      t.mapper = (s.mapper.write s.cfg.segaCtrlWriteThrough s.hl (trunc8 r)).1 ∧
      t.cpu.a.toNat = 16 * (s.cpu.a.toNat / 16) + (s.memRead s.hl).toNat % 16 ∧ ValueRule t.cpu.a s.cpu.f t.cpu.f))

/-- `BIT`: Z is the complement of the bit, H is set, N is clear, C is kept (47_bit R461 to R464, R473). `SET` and `RES`: the bit set or
cleared, every other bit kept, in a register, in memory, and in the register copy (47_bit R465 to R472, R474). -/
def Obligations.BitOperations : Prop :=
  (∀ (i : Instr) (s : State) (b : BitVec 3) (v : Byte), bitForm s i = some (b, v) →
    ∃ t, exec i s = .next t ∧ t.cpu.f.z = decide (v.toNat / 2 ^ b.toNat % 2 = 0) ∧ t.cpu.f.h = true ∧ t.cpu.f.n = false ∧
      t.cpu.f.c = s.cpu.f.c) ∧
  (∀ (s : State) (b : BitVec 3) (r : Reg8),
    (∃ t, exec (.setR b r) s = .next t ∧
      ∀ k < 8, (t.getR8 r).getLsbD k = if k = b.toNat then true else (s.getR8 r).getLsbD k) ∧
    (∃ t, exec (.resR b r) s = .next t ∧
      ∀ k < 8, (t.getR8 r).getLsbD k = if k = b.toNat then false else (s.getR8 r).getLsbD k)) ∧
  (∀ (i : Instr) (s : State) (set : Bool) (b : BitVec 3) (a : Word) (copy : Option Reg8), setResForm s i = some (set, b, a, copy) →
    ∃ t w, exec i s = .next t ∧ (∀ k < 8, w.getLsbD k = if k = b.toNat then set else (s.memRead a).getLsbD k) ∧
      t.mapper = (s.mapper.write s.cfg.segaCtrlWriteThrough a w).1 ∧ t.cpu.f = s.cpu.f ∧ ∀ q, copy = some q → t.getR8 q = w)

/-! ### Jumps, calls, returns -/

/-- The jumps: absolute, through a register, relative (the displacement signed, the sum modulo 65536), each under its condition; a condition
that fails leaves PC past the instruction; `DJNZ` counts B down and jumps unless it reached 0 (48_jump_call_return R481 to R491). -/
def Obligations.Jumps : Prop :=
  ∀ (s : State) (nn : Word) (e : Byte) (cc : Cond),
    (∃ t, exec (.jpNn nn) s = .next t ∧ t.cpu.pc = nn) ∧
    (∃ t, exec (.jpCcNn cc nn) s = .next t ∧ t.cpu.pc = if condTrue s.cpu.f cc then nn else s.cpu.pc) ∧
    (∃ t, exec .jpHl s = .next t ∧ t.cpu.pc = s.hl) ∧
    (∃ t, exec .jpIx s = .next t ∧ t.cpu.pc = s.cpu.ix) ∧
    (∃ t, exec .jpIy s = .next t ∧ t.cpu.pc = s.cpu.iy) ∧
    (∃ t, exec (.jr e) s = .next t ∧ (t.cpu.pc.toNat : Int) = (s.cpu.pc.toNat + e.toInt) % 65536) ∧
    (∀ i taken, (i, taken) ∈ [(Instr.jrNz e, !s.cpu.f.z), (.jrZ e, s.cpu.f.z), (.jrNc e, !s.cpu.f.c), (.jrC e, s.cpu.f.c)] →
      ∃ t, exec i s = .next t ∧
        (t.cpu.pc.toNat : Int) = if taken then (s.cpu.pc.toNat + e.toInt) % 65536 else s.cpu.pc.toNat) ∧
    (∃ t, exec (.djnz e) s = .next t ∧ t.cpu.b.toNat = (s.cpu.b.toNat + 255) % 256 ∧
      (t.cpu.pc.toNat : Int) = if t.cpu.b = 0 then (s.cpu.pc.toNat : Int) else (s.cpu.pc.toNat + e.toInt) % 65536)

/-- Calls push PC, high byte first, and jump; `RST` to eight times its field; a call or return whose condition fails touches neither stack
nor PC; returns pop PC; `RETN` restores IFF1 from IFF2, `RETI` treats the flip-flops by `RETI_IFF_POLICY`
(48_jump_call_return R492 to R501). -/
def Obligations.CallsAndReturns : Prop :=
  (∀ (i : Instr) (s : State) (target : Word),
    (i = .callNn target ∨ (∃ y, i = .rst y ∧ target.toNat = 8 * y.toNat) ∨
      (∃ cc, i = .callCcNn cc target ∧ condTrue s.cpu.f cc = true)) →
    ∃ t, exec i s = .next t ∧ t.cpu.pc = target ∧ t.cpu.sp = s.cpu.sp - 2 ∧ t.mapper = storeAll s.cfg.segaCtrlWriteThrough s.mapper
      [(s.cpu.sp - 1, hiByte s.cpu.pc), (s.cpu.sp - 2, loByte s.cpu.pc)]) ∧
  (∀ (i : Instr) (s : State) (cc : Cond) (nn : Word), condTrue s.cpu.f cc = false → i ∈ [Instr.callCcNn cc nn, .retCc cc] →
    ∃ t, exec i s = .next t ∧ t.cpu.pc = s.cpu.pc ∧ t.cpu.sp = s.cpu.sp ∧ t.mapper = s.mapper) ∧
  (∀ (i : Instr) (s : State),
    (i = .ret ∨ i = .retn ∨ i = .reti ∨ (∃ y, i = .retnMirror y) ∨ (∃ cc, i = .retCc cc ∧ condTrue s.cpu.f cc = true)) →
    ∃ t, exec i s = .next t ∧ t.cpu.pc = wordOf (s.memRead (s.cpu.sp + 1)) (s.memRead s.cpu.sp) ∧ t.cpu.sp = s.cpu.sp + 2 ∧
      (i = .retn ∨ (∃ y, i = .retnMirror y) → t.cpu.iff1 = s.cpu.iff2 ∧ t.cpu.iff2 = s.cpu.iff2) ∧
      (i = .reti → (s.cfg.retiIffPolicy = .unchanged → t.cpu.iff1 = s.cpu.iff1 ∧ t.cpu.iff2 = s.cpu.iff2) ∧
        (s.cfg.retiIffPolicy = .copyIff2 → t.cpu.iff1 = s.cpu.iff2 ∧ t.cpu.iff2 = s.cpu.iff2) ∧
        (s.cfg.retiIffPolicy = .set → t.cpu.iff1 = true ∧ t.cpu.iff2 = true)))

/-! ### Input and output -/

/-- `IN` and `OUT`: one access to the port `A:n` or `BC`, the byte into the register, the flags of `IN r,(C)` from it (and of `IN (C)`, which
stores it nowhere); `OUT` sends the register or 0 (49_io R521 to R523, R529, R530, R532). -/
def Obligations.InputAndOutput : Prop :=
  ∀ (s : State) (n : Byte) (r : Reg8),
    (∃ t, exec (.inAN n) s = .next t ∧ t.cpu.a = (s.ioRead (wordOf s.cpu.a n)).1 ∧ t.vdp = (s.ioRead (wordOf s.cpu.a n)).2.vdp ∧
      t.cpu.f = s.cpu.f) ∧
    (∃ t, exec (.inRC r) s = .next t ∧ t.getR8 r = (s.ioRead s.bc).1 ∧ ValueRule (s.ioRead s.bc).1 s.cpu.f t.cpu.f ∧
      t.vdp = (s.ioRead s.bc).2.vdp) ∧
    (∃ t, exec .inC s = .next t ∧ ValueRule (s.ioRead s.bc).1 s.cpu.f t.cpu.f ∧ t.vdp = (s.ioRead s.bc).2.vdp) ∧
    exec (.outNA n) s = .next ((s.ioWrite (wordOf s.cpu.a n) s.cpu.a).addCycles 11) ∧
    exec (.outCR r) s = .next ((s.ioWrite s.bc (s.getR8 r)).addCycles 12) ∧
    exec .outC0 s = .next ((s.ioWrite s.bc 0x00).addCycles 12)

/-- One iteration of a block input or output: the port addressed with B before the decrement (input) or after it (output), the byte moved
between the port and HL, the pointer moved, B down by one, Z telling whether B is 0, N set, C kept; a repeating form sets PC back
by 2 unless B reached 0 (49_io R524 to R528, R531, R533 to R536). -/
def Obligations.BlockInputAndOutput : Prop :=
  (∀ (i : Instr) (s : State) (k : Int) (repeats : Bool),
    (i, k, repeats) ∈ [(Instr.ini, 1, false), (.ind, -1, false), (.inir, 1, true), (.indr, -1, true)] →
    ∃ t, exec i s = .next t ∧ t.vdp = (s.ioRead s.bc).2.vdp ∧
      t.mapper = (s.mapper.write s.cfg.segaCtrlWriteThrough s.hl (s.ioRead s.bc).1).1 ∧
      (t.hl.toNat : Int) = (s.hl.toNat + k) % 65536 ∧ t.cpu.b.toNat = (s.cpu.b.toNat + 255) % 256 ∧
      t.cpu.f.z = decide (t.cpu.b = 0) ∧ t.cpu.f.n = true ∧ t.cpu.f.c = s.cpu.f.c ∧
      t.cpu.pc = if repeats = true ∧ t.cpu.b ≠ 0 then s.cpu.pc - 2 else s.cpu.pc) ∧
  (∀ (i : Instr) (s : State) (k : Int) (repeats : Bool),
    (i, k, repeats) ∈ [(Instr.outi, 1, false), (.outd, -1, false), (.otir, 1, true), (.otdr, -1, true)] →
    ∃ t, exec i s = .next t ∧
      t.vdp = (s.ioWrite (wordOf (s.cpu.b - 1) s.cpu.c) (s.memRead s.hl)).vdp ∧
      t.events = (s.ioWrite (wordOf (s.cpu.b - 1) s.cpu.c) (s.memRead s.hl)).events ∧
      (t.hl.toNat : Int) = (s.hl.toNat + k) % 65536 ∧ t.cpu.b.toNat = (s.cpu.b.toNat + 255) % 256 ∧
      t.cpu.f.z = decide (t.cpu.b = 0) ∧ t.cpu.f.n = true ∧ t.cpu.f.c = s.cpu.f.c ∧
      t.cpu.pc = if repeats = true ∧ t.cpu.b ≠ 0 then s.cpu.pc - 2 else s.cpu.pc)
end

