-- ==== Sys2Proof/Laws/Bits.lean ====
section
/-! SUPPORT. The byte operations of Flags.lean and Bit.lean as arithmetic: rotates and shifts, set and reset, increment and decrement, the
nibble exchanges, parity as a count, the flag rules on integers, and sums and differences of words. -/

namespace Sys2Proof.Machine

/-- Two nibbles put together as a number. -/
theorem nibbles_toNat (x y : BitVec 4) : (x ++ y : Byte).toNat = 16 * x.toNat + y.toNat := by
  refine (BitVec.toNat_append x y).trans ?_
  rw [Nat.shiftLeft_eq, Nat.mul_comm, ← Nat.two_pow_add_eq_or_of_lt y.isLt]

/-- The byte `RLD` stores (46_rotate_shift R436). -/
theorem rld_byte (t a : Byte) :
    (t.extractLsb' 0 4 ++ a.extractLsb' 0 4 : Byte) = trunc8 (16 * (t.toNat % 16) + a.toNat % 16) := by
  apply BitVec.eq_of_toNat_eq
  rw [nibbles_toNat]
  simp [trunc8]
  omega

/-- The byte `RRD` stores (46_rotate_shift R437). -/
theorem rrd_byte (t a : Byte) :
    (a.extractLsb' 0 4 ++ t.extractLsb' 4 4 : Byte) = trunc8 (16 * (a.toNat % 16) + t.toNat / 16) := by
  apply BitVec.eq_of_toNat_eq
  rw [nibbles_toNat]
  simp [trunc8, Nat.shiftRight_eq_div_pow]
  omega

theorem rlc8_fst (v : Byte) (f : Flags) : (rlc8 v f.c).1 = ShiftOp.rlc.byte v f := by
  unfold ShiftOp.byte; generalize f.c = c; revert v c; decide

theorem rrc8_fst (v : Byte) (f : Flags) : (rrc8 v f.c).1 = ShiftOp.rrc.byte v f := by
  unfold ShiftOp.byte; generalize f.c = c; revert v c; decide

theorem rl8_fst (v : Byte) (f : Flags) : (rl8 v f.c).1 = ShiftOp.rl.byte v f := by
  unfold ShiftOp.byte; generalize f.c = c; revert v c; decide

theorem rr8_fst (v : Byte) (f : Flags) : (rr8 v f.c).1 = ShiftOp.rr.byte v f := by
  unfold ShiftOp.byte; generalize f.c = c; revert v c; decide

theorem sla8_fst (v : Byte) (f : Flags) : (sla8 v f.c).1 = ShiftOp.sla.byte v f := by
  unfold ShiftOp.byte; generalize f.c = c; revert v c; decide

theorem sra8_fst (v : Byte) (f : Flags) : (sra8 v f.c).1 = ShiftOp.sra.byte v f := by
  unfold ShiftOp.byte; generalize f.c = c; revert v c; decide

theorem sll8_fst (v : Byte) (f : Flags) : (sll8 v f.c).1 = ShiftOp.sll.byte v f := by
  unfold ShiftOp.byte; generalize f.c = c; revert v c; decide

theorem srl8_fst (v : Byte) (f : Flags) : (srl8 v f.c).1 = ShiftOp.srl.byte v f := by
  unfold ShiftOp.byte; generalize f.c = c; revert v c; decide

theorem set8_eq_withBit (v : Byte) (b : BitVec 3) : set8 v b = withBit v b true := by revert v b; decide

theorem res8_eq_withBit (v : Byte) (b : BitVec 3) : res8 v b = withBit v b false := by revert v b; decide

theorem inc8_fst (v : Byte) (f u : Flags) : (inc8 v f u).1 = v + 1 := by
  apply BitVec.eq_of_toNat_eq; simp [inc8, trunc8]

theorem dec8_fst (v : Byte) (f u : Flags) : (dec8 v f u).1 = v - 1 := by
  simp only [dec8]; revert v; decide

/-- Parity as a count of 1 bits (00_scope R7). -/
theorem parity_eq_ones (v : Byte) : parity v = decide (onesCount v % 2 = 0) := by revert v; decide

/-- Bit 7 as a comparison. -/
theorem signBit_eq (v : Byte) : v.getLsbD 7 = decide (128 ≤ v.toNat) := by revert v; decide

theorem isZero_eq (v : Byte) : (v == 0) = decide (v.toNat = 0) := by revert v; decide

/-- The two ways a condition is written. -/
theorem condHolds_eq (f : Flags) (cc : Cond) : condHolds f cc = condTrue f cc := by
  cases cc <;> obtain ⟨s, z, y, h, x, pv, n, c⟩ := f <;> revert s z y h x pv n c <;> decide

/-- A difference is not 0 exactly when the operands differ. -/
theorem sub_bne_zero {n : Nat} (x y : BitVec n) : (x - y != 0) = (x != y) := by
  rw [bne, bne, Bool.beq_eq_decide_eq, Bool.beq_eq_decide_eq]
  congr 2
  exact propext ⟨fun h => by simpa using (BitVec.sub_eq_iff_eq_add.mp h), fun h => by simp [h]⟩

/-- SP lowered by one twice. -/
theorem sub_one_sub_one (x : Word) : x - 1#16 - 1#16 = x - 2#16 := by
  apply BitVec.eq_of_toNat_eq
  simp [BitVec.toNat_sub]
  omega

end Sys2Proof.Machine
end

