-- ==== Sys2Proof/Laws/Decode.lean ====
section
/-! SUPPORT. The decoder table by table: no table but the base table gives a prefix row, the base table gives one for the four prefix bytes
alone, and `decodeWindow` never gives one; entries run as `exec` runs them. -/

namespace Sys2Proof

open Sys2Proof.Machine

/-- `IDX_OPS` as its 86 bytes (30_encoding R151). -/
theorem inIdxOps_eq : ∀ op : Byte, inIdxOps op = decide (op ∈ idxOps) := by decide

/-- The opcode fetches of an instruction, counted from its first two bytes (10_state R30). -/
theorem windowM1_eq (b0 b1 : Byte) :
    windowM1 b0 b1 = if b0 ∈ [0xCB, 0xED] ∨ b0 ∈ [0xDD, 0xFD] ∧ b1 ∈ idxOps then 2 else 1 := by
  unfold windowM1
  simp only [inIdxOps_eq, Bool.or_eq_true, beq_iff_eq, decide_eq_true_eq, List.mem_cons, List.not_mem_nil, or_false]
  by_cases h : b0 = 0xCB ∨ b0 = 0xED
  · rw [if_pos h, if_pos (.inl h)]
  · by_cases h' : b0 = 0xDD ∨ b0 = 0xFD <;> simp only [h, h', if_true, if_false, false_or, true_and, false_and]

theorem decodeCb_not_prefixRow (op : Byte) : isPrefixRow (decodeCb op) = false := by revert op; decide

theorem decodeDdCb_not_prefixRow (d op : Byte) : isPrefixRow (decodeDdCb d op) = false := by
  unfold decodeDdCb rotMemIx rotMemIxR
  dsimp only
  repeat' split
  all_goals rfl

theorem decodeFdCb_not_prefixRow (d op : Byte) : isPrefixRow (decodeFdCb d op) = false := by
  unfold decodeFdCb rotMemIy rotMemIyR
  dsimp only
  repeat' split
  all_goals rfl

theorem decodeEd_not_prefixRow (op b2 b3 : Byte) : isPrefixRow (decodeEd op b2 b3) = false := by
  unfold decodeEd
  dsimp only
  repeat' split
  all_goals rfl

theorem decodeDd_not_prefixRow (op b2 b3 : Byte) (h : (op == 0xCB) = false) : isPrefixRow (decodeDd op b2 b3) = false := by
  unfold decodeDd aluIxHalf aluMemIx
  dsimp only
  rw [h]
  repeat' split
  all_goals first | rfl | contradiction

theorem decodeFd_not_prefixRow (op b2 b3 : Byte) (h : (op == 0xCB) = false) : isPrefixRow (decodeFd op b2 b3) = false := by
  unfold decodeFd aluIyHalf aluMemIy
  dsimp only
  rw [h]
  repeat' split
  all_goals first | rfl | contradiction

/-- The base table's prefix rows are the four prefix bytes (30_encoding R157). -/
theorem decodeBase_not_prefixRow (op b1 b2 : Byte) (h1 : op ≠ 0xCB) (h2 : op ≠ 0xED) (h3 : op ≠ 0xDD) (h4 : op ≠ 0xFD) :
    isPrefixRow (decodeBase op b1 b2) = false := by
  have key : ∀ op : Byte, op ≠ 0xCB → op ≠ 0xED → op ≠ 0xDD → op ≠ 0xFD →
      ¬((fieldX op).toNat ≠ 0 ∧ (fieldX op).toNat ≠ 1 ∧ (fieldX op).toNat ≠ 2 ∧
        ((fieldZ op).toNat = 3 ∧ (fieldY op).toNat = 1 ∨
          (fieldZ op).toNat = 5 ∧ (fieldQ op == 0) = false ∧ (fieldP op).toNat ≠ 0)) := by decide
  have k := key op h1 h2 h3 h4
  unfold decodeBase aluR aluMemHl aluN
  dsimp only
  repeat' split
  all_goals first | rfl | (exfalso; simp_all)

/-- No four bytes decode to a prefix row (30_encoding R141, R161). -/
theorem decodeWindow_not_prefixRow (b0 b1 b2 b3 : Byte) : isPrefixRow (decodeWindow b0 b1 b2 b3) = false := by
  unfold decodeWindow
  split
  · exact decodeCb_not_prefixRow _
  split
  · exact decodeEd_not_prefixRow _ _ _
  split
  · split
    · exact decodeDdCb_not_prefixRow _ _
    · exact decodeDd_not_prefixRow _ _ _ (by simp_all)
  split
  · split
    · exact decodeFdCb_not_prefixRow _ _
    · exact decodeFd_not_prefixRow _ _ _ (by simp_all)
  · refine decodeBase_not_prefixRow _ _ _ ?_ ?_ ?_ ?_ <;> simp_all

/-- An entry reached through a prefix row runs as `exec` runs it (30_encoding R141). -/
theorem runEntry_eq_exec (i : Instr) (h : isPrefixRow i = false) (s : State) : runEntry i s = exec i s := by
  cases i <;> first | rfl | cases h

/-- Four bytes always decode, to the window's instruction and what follows its length (30_encoding R142). -/
theorem decode_window (b0 b1 b2 b3 : Byte) :
    decode [b0, b1, b2, b3] = .ok (decodeWindow b0 b1 b2 b3, [b0, b1, b2, b3].drop (windowLength b0 b1)) := by
  have hl : windowLength b0 b1 ≤ 4 := by
    have hb : ∀ op, baseOperands op ≤ 2 := by decide
    have hm : ∀ op, baseOperands op + (if hasMemHl op then 1 else 0) ≤ 2 := by decide
    have := hb b0
    have := hm b1
    unfold windowLength
    split_ifs at * <;> omega
  simp only [decode, lonePrefix]
  exact if_neg (by simpa using hl)

end Sys2Proof
end

