-- ==== Sys2Proof/Laws/Memory.lean ====
section
/-! SUPPORT. Byte memories: a read after a write, every other place left alone, the canonical form kept. -/

namespace Sys2Proof.Machine

/-- Below the first listed address everything reads as the default. -/
theorem Memory.read_below {size lo a : Nat} {m : Memory} (h : Memory.wfFrom size lo m = true) (ha : a < lo) :
    Memory.read m a = memoryDefault := by
  induction m generalizing lo with
  | nil => rfl
  | cons c rest ih =>
    obtain ⟨k, w⟩ := c
    simp only [Memory.wfFrom, Bool.and_eq_true, decide_eq_true_eq] at h
    rw [Memory.read, if_neg (by omega)]
    exact ih h.2 (by omega)

/-- A smaller lower bound is a bound. -/
theorem Memory.wfFrom_mono {size lo lo' : Nat} {m : Memory} (h : Memory.wfFrom size lo m = true) (hl : lo' ≤ lo) :
    Memory.wfFrom size lo' m = true := by
  cases m with
  | nil => rfl
  | cons c rest =>
    obtain ⟨k, w⟩ := c
    simp only [Memory.wfFrom, Bool.and_eq_true, decide_eq_true_eq] at h ⊢
    exact ⟨⟨⟨by omega, h.1.1.2⟩, h.1.2⟩, h.2⟩

theorem Memory.read_put_same {size a : Nat} {v : Byte} {m : Memory} (h : Memory.wfFrom size (a + 1) m = true) :
    Memory.read (Memory.put a v m) a = v := by
  unfold Memory.put
  split
  · rename_i hv; rw [Memory.read_below h (by omega), hv]
  · simp [Memory.read]

theorem Memory.read_put_other {a b : Nat} {v : Byte} {m : Memory} (hb : b ≠ a) :
    Memory.read (Memory.put a v m) b = Memory.read m b := by
  unfold Memory.put
  split
  · rfl
  · simp [Memory.read, Ne.symm hb]

theorem Memory.wfFrom_put {size lo a : Nat} {v : Byte} {m : Memory} (hl : lo ≤ a) (ha : a < size)
    (h : Memory.wfFrom size (a + 1) m = true) : Memory.wfFrom size lo (Memory.put a v m) = true := by
  unfold Memory.put
  split
  · exact Memory.wfFrom_mono h (by omega)
  · simp_all [Memory.wfFrom]

/-- A byte read where it was written is the byte written. -/
theorem Memory.read_write_same {size lo : Nat} {m : Memory} (h : Memory.wfFrom size lo m = true) (a : Nat) (v : Byte) :
    Memory.read (Memory.write m a v) a = v := by
  induction m generalizing lo with
  | nil => exact Memory.read_put_same (size := 0) rfl
  | cons c rest ih =>
    obtain ⟨k, w⟩ := c
    have h' := h
    simp only [Memory.wfFrom, Bool.and_eq_true, decide_eq_true_eq] at h'
    rw [Memory.write]
    split
    · refine Memory.read_put_same (size := size) ?_
      simp only [Memory.wfFrom, Bool.and_eq_true, decide_eq_true_eq]
      exact ⟨⟨⟨by omega, h'.1.1.2⟩, h'.1.2⟩, h'.2⟩
    · split
      · rename_i he; subst he; exact Memory.read_put_same h'.2
      · rename_i he; rw [Memory.read, if_neg (Ne.symm he)]; exact ih h'.2

/-- A write changes no other byte. -/
theorem Memory.read_write_other (m : Memory) {a b : Nat} (v : Byte) (hb : b ≠ a) :
    Memory.read (Memory.write m a v) b = Memory.read m b := by
  induction m with
  | nil => exact Memory.read_put_other hb
  | cons c rest ih =>
    obtain ⟨k, w⟩ := c
    rw [Memory.write]
    split
    · exact Memory.read_put_other hb
    · split
      · rename_i he; subst he
        rw [Memory.read_put_other hb, Memory.read, if_neg (Ne.symm hb)]
      · rw [Memory.read, Memory.read, ih]

theorem Memory.wfFrom_write {size lo a : Nat} {m : Memory} (h : Memory.wfFrom size lo m = true) (hl : lo ≤ a) (ha : a < size)
    (v : Byte) : Memory.wfFrom size lo (Memory.write m a v) = true := by
  induction m generalizing lo with
  | nil => exact Memory.wfFrom_put hl ha rfl
  | cons c rest ih =>
    obtain ⟨k, w⟩ := c
    have h' := h
    simp only [Memory.wfFrom, Bool.and_eq_true, decide_eq_true_eq] at h'
    rw [Memory.write]
    split
    · refine Memory.wfFrom_put hl ha ?_
      simp only [Memory.wfFrom, Bool.and_eq_true, decide_eq_true_eq]
      exact ⟨⟨⟨by omega, h'.1.1.2⟩, h'.1.2⟩, h'.2⟩
    · split
      · rename_i he; subst he; exact Memory.wfFrom_put hl ha h'.2
      · simp only [Memory.wfFrom, Bool.and_eq_true, decide_eq_true_eq]
        exact ⟨⟨⟨h'.1.1.1, h'.1.1.2⟩, h'.1.2⟩, ih h'.2 (by omega)⟩

/-- Every write keeps the canonical form. -/
theorem Memory.wf_write {size a : Nat} {m : Memory} (h : Memory.wf size m = true) (ha : a < size) (v : Byte) :
    Memory.wf size (Memory.write m a v) = true := Memory.wfFrom_write h (Nat.zero_le _) ha v

/-- The empty memory is canonical. -/
@[simp] theorem Memory.wf_nil (size : Nat) : Memory.wf size [] = true := rfl

theorem Memory.wfFrom_ofBytes (size base : Nat) (bs : List Byte) (h : base + bs.length ≤ size) :
    Memory.wfFrom size base (Memory.ofBytes base bs) = true := by
  induction bs generalizing base with
  | nil => rfl
  | cons b rest ih =>
    rw [List.length_cons] at h
    exact Memory.wfFrom_put (Nat.le_refl _) (by omega) (ih (base + 1) (by omega))

/-- A list of bytes made a memory is canonical and reads back (10_state R40). -/
theorem Memory.read_ofBytes (base : Nat) (bs : List Byte) (k : Nat) :
    Memory.read (Memory.ofBytes base bs) (base + k) = bs.getD k memoryDefault := by
  induction bs generalizing base k with
  | nil => rfl
  | cons b rest ih =>
    rw [Memory.ofBytes]
    cases k with
    | zero =>
      exact Memory.read_put_same (size := base + 1 + rest.length) (Memory.wfFrom_ofBytes _ _ _ (Nat.le_refl _))
    | succ k =>
      rw [Memory.read_put_other (by omega), show base + (k + 1) = base + 1 + k by omega, ih]
      rfl

end Sys2Proof.Machine
end

