-- ==== Sys2Proof/Laws/Mapper.lean ====
section
/-! SUPPORT. What a mapper write can do (20_memory R95 to R112): an ordinary write changes one byte of one page or nothing, a control
write changes the control registers, the table and the mask, and may append zero-filled pages. -/

namespace Sys2Proof.Machine

theorem offsetOf_lt (a : Word) : offsetOf a < pageSize := (a.extractLsb' 0 13).isLt

@[simp] theorem remapped_pages (m : Mapper) : m.remapped.1.pages = m.pages := rfl
@[simp] theorem remapped_romPages (m : Mapper) : m.remapped.1.romPages = m.romPages := rfl
@[simp] theorem remapped_bank (m : Mapper) : m.remapped.1.bank = m.bank := rfl

/-- After a remap the table and the mask are those of the remap function. -/
theorem remapped_table (m : Mapper) :
    (m.remapped.1.slot, m.remapped.1.writable) = remapOf m.remapped.1.romPages m.remapped.1.bank := rfl

/-- The pages an allocation appends: `n` zero-filled ones, when a bank is mapped that has none yet (20_memory R104). -/
theorem allocate_pages (pages : List Memory) (ram : List (Option Nat)) (n : Nat) (b : Option Nat) :
    (allocate pages ram n b).1 = pages ++ (if b.bind (ram[·]?) = some none then List.replicate n [] else []) := by
  cases b with
  | none => simp [allocate]
  | some b => simp only [allocate, Option.bind_some]; split <;> simp

/-- `cart_ram` after an allocation: the entry of the bank allocated names the first page appended, every other stays (20_memory R104). -/
theorem allocate_ram (pages : List Memory) (ram : List (Option Nat)) (n : Nat) (b : Option Nat) (k : Nat) :
    (allocate pages ram n b).2.1[k]? = if b = some k ∧ ram[k]? = some none then some (some pages.length) else ram[k]? := by
  cases b with
  | none => simp [allocate]
  | some b =>
    simp only [allocate]
    by_cases hb : b = k
    · subst hb
      by_cases hr : ram[b]? = some none
      · obtain ⟨hlt, -⟩ := List.getElem?_eq_some_iff.mp hr
        rw [if_pos hr, if_pos ⟨rfl, hr⟩, List.getElem?_set_self hlt]
      · simp [hr]
    · split <;> simp [hb]

@[simp] theorem allocate_ram_length (pages : List Memory) (ram : List (Option Nat)) (n : Nat) (b : Option Nat) :
    (allocate pages ram n b).2.1.length = ram.length := by
  cases b with
  | none => rfl
  | some b => simp only [allocate]; split <;> simp

@[simp] theorem Bank.ram_withRam (ram : List (Option Nat)) (b : Bank) : (b.withRam ram).ram = ram := by cases b <;> rfl
@[simp] theorem Bank.ramPages_withRam (ram : List (Option Nat)) (b : Bank) : (b.withRam ram).ramPages = b.ramPages := by cases b <;> rfl

/-- Which bank is mapped depends on the control registers and the number of banks alone (20_memory R100, R110). -/
theorem Bank.mapped_withRam (ram : List (Option Nat)) (b : Bank) (h : ram.length = b.ram.length) : (b.withRam ram).mapped = b.mapped := by
  cases b <;> simp [Bank.withRam, Bank.mapped, SegaBank.mapped, CodemastersBank.mapped, Bank.ram] at h ⊢ <;> rw [h]

/-- Which bank the Sega registers map, on numbers (20_memory R100, R101). -/
theorem SegaBank.mapped_eq_some (r : SegaBank) (k : Nat) :
    r.mapped = some k ↔ r.ctl0.toNat / 8 % 2 = 1 ∧ k = r.ctl0.toNat / 4 % 2 ∧ k < r.ram.length := by
  have hb : (r.ctl0.getLsbD 2).toNat = r.ctl0.toNat / 4 % 2 := by
    rw [BitVec.getLsbD, Nat.toNat_testBit]
  have h3 : r.ctl0.getLsbD 3 = decide (r.ctl0.toNat / 8 % 2 = 1) := by
    rw [BitVec.getLsbD, Nat.testBit_eq_decide_div_mod_eq]
  simp only [SegaBank.mapped, hb, h3, Bool.and_eq_true, decide_eq_true_eq, Option.ite_none_right_eq_some, Option.some.injEq]
  constructor
  · rintro ⟨⟨h1, h2⟩, rfl⟩; exact ⟨h1, rfl, h2⟩
  · rintro ⟨h1, rfl, h2⟩; exact ⟨⟨h1, h2⟩, rfl⟩

/-- Which bank the Codemasters registers map, on numbers (20_memory R110, R111). -/
theorem CodemastersBank.mapped_eq_some (r : CodemastersBank) (k : Nat) :
    r.mapped = some k ↔ r.ctl1.toNat / 128 = 1 ∧ k = 0 ∧ 0 < r.ram.length := by
  have h7 : r.ctl1.getLsbD 7 = decide (r.ctl1.toNat / 128 = 1) := by
    rw [BitVec.getLsbD, Nat.testBit_eq_decide_div_mod_eq]
    have := r.ctl1.isLt
    exact decide_eq_decide.mpr ⟨fun h => by omega, fun h => by omega⟩
  simp only [CodemastersBank.mapped, h7, Bool.and_eq_true, decide_eq_true_eq, Option.ite_none_right_eq_some, Option.some.injEq]
  constructor
  · rintro ⟨⟨h1, h2⟩, rfl⟩; exact ⟨h1, rfl, h2⟩
  · rintro ⟨h1, rfl, h2⟩; exact ⟨⟨h1, h2⟩, rfl⟩

/-- A mapped bank is one of the `CART_RAM_BANKS` banks (10_state R44). -/
theorem Bank.mapped_lt {b : Bank} {k : Nat} (h : b.mapped = some k) : k < b.ram.length := by
  cases b with
  | sega r => exact ((r.mapped_eq_some k).mp h).2.2
  | codemasters r => obtain ⟨-, rfl, h0⟩ := (r.mapped_eq_some k).mp h; exact h0

/-- A control write as a record (20_memory R102, R112). -/
theorem controlWritten_eq (m : Mapper) (bank : Bank) (i : Nat) (v : Byte) :
    (m.controlWritten bank i v).1 =
      (Mapper.remapped { m with
        pages := (allocate m.pages bank.ram bank.ramPages bank.mapped).1
        bank := bank.withRam (allocate m.pages bank.ram bank.ramPages bank.mapped).2.1 }).1 := rfl

@[simp] theorem controlWritten_romPages (m : Mapper) (bank : Bank) (i : Nat) (v : Byte) :
    (m.controlWritten bank i v).1.romPages = m.romPages := rfl

@[simp] theorem controlWritten_bank (m : Mapper) (bank : Bank) (i : Nat) (v : Byte) :
    (m.controlWritten bank i v).1.bank = bank.withRam (allocate m.pages bank.ram bank.ramPages bank.mapped).2.1 := rfl

/-- The pages after a control write (20_memory R104). -/
theorem controlWritten_pages (m : Mapper) (bank : Bank) (i : Nat) (v : Byte) :
    (m.controlWritten bank i v).1.pages =
      m.pages ++ (if bank.mapped.bind (bank.ram[·]?) = some none then List.replicate bank.ramPages [] else []) :=
  allocate_pages m.pages bank.ram bank.ramPages bank.mapped

/-- Writing a control register leaves `cart_ram` as it is (20_memory R102). -/
@[simp] theorem SegaBank.ram_setCtl (r : SegaBank) (i : BitVec 2) (v : Byte) : (r.setCtl i v).ram = r.ram := by
  unfold SegaBank.setCtl; split <;> rfl

@[simp] theorem CodemastersBank.ram_setCtl (r : CodemastersBank) (g : BitVec 2) (v : Byte) : (r.setCtl g v).ram = r.ram := by
  unfold CodemastersBank.setCtl; split <;> rfl

/-- What an ordinary write does to one byte of a page (20_memory R95, R89). -/
theorem pageByte_setPageByte (m : Mapper) (p o p' o' : Nat) (v : Byte) (hne : (p', o') ≠ (p, o)) :
    (m.setPageByte p o v).pageByte p' o' = m.pageByte p' o' := by
  unfold Mapper.pageByte Mapper.setPageByte
  simp only [List.getD_eq_getElem?_getD, List.getElem?_modify]
  by_cases hp : p = p'
  · subst hp
    have ho : o' ≠ o := fun h => hne (by rw [h])
    cases m.pages[p]? with
    | none => rfl
    | some page => simp [Memory.read_write_other page v ho]
  · simp [hp]

theorem pageByte_setPageByte_same (m : Mapper) {p o : Nat} (v : Byte) (hp : p < m.pages.length)
    (hwf : ∀ q ∈ m.pages, Memory.wf pageSize q = true) : (m.setPageByte p o v).pageByte p o = v := by
  unfold Mapper.pageByte Mapper.setPageByte
  simp only [List.getD_eq_getElem?_getD, List.getElem?_modify]
  simp only [List.getElem?_eq_getElem hp, Option.map_eq_map, Option.map_some, if_pos, Option.getD_some]
  exact Memory.read_write_same (hwf _ (List.getElem_mem hp)) o v

/-- A page appended with no byte listed reads as 0x00 and leaves the pages before it alone (20_memory R104). -/
theorem pageByte_append (m : Mapper) (k : Nat) (p o : Nat) :
    Memory.read ((m.pages ++ List.replicate k []).getD p []) o = m.pageByte p o := by
  unfold Mapper.pageByte
  by_cases hp : p < m.pages.length
  · simp [List.getD_eq_getElem?_getD, List.getElem?_append_left hp]
  · have h1 : m.pages[p]? = none := by simp; omega
    rw [List.getD_eq_getElem?_getD, List.getElem?_append_right (by omega), List.getElem?_replicate]
    simp only [List.getD_eq_getElem?_getD, h1]
    split <;> rfl

/-- A control write leaves every byte of every page as it was; an appended page reads as 0x00, as an absent one does
(20_memory R102, R104, R112). -/
theorem controlWritten_pageByte (m : Mapper) (bank : Bank) (i : Nat) (v : Byte) (p o : Nat) :
    (m.controlWritten bank i v).1.pageByte p o = m.pageByte p o := by
  unfold Mapper.pageByte
  rw [controlWritten_pages]
  split
  · exact pageByte_append m _ p o
  · rw [List.append_nil]

/-- What an ordinary write leaves alone (20_memory R89, R95). -/
theorem ordinaryWrite_frame (m : Mapper) (a : Word) (v : Byte) :
    (m.ordinaryWrite a v).1.slot = m.slot ∧ (m.ordinaryWrite a v).1.writable = m.writable ∧
      (m.ordinaryWrite a v).1.bank = m.bank ∧ (m.ordinaryWrite a v).1.romPages = m.romPages ∧
      (m.ordinaryWrite a v).1.pages.length = m.pages.length := by
  unfold Mapper.ordinaryWrite
  simp only
  split <;> simp [Mapper.setPageByte]

theorem ordinaryWrite_pageByte (m : Mapper) (a : Word) (v : Byte) (p o : Nat) (h : m.storeTarget a ≠ some (p, o)) :
    (m.ordinaryWrite a v).1.pageByte p o = m.pageByte p o := by
  unfold Mapper.ordinaryWrite
  unfold Mapper.storeTarget at h
  simp only
  split
  · rename_i hw
    rw [if_pos hw] at h
    exact pageByte_setPageByte _ _ _ _ _ _ (fun he => h (by rw [he]))
  · rfl

/-- A write to an ordinary address is the ordinary path. -/
theorem write_ordinary (m : Mapper) (thr : Bool) (a : Word) (v : Byte) (h : m.isControl a = false) :
    m.write thr a v = m.ordinaryWrite a v := by
  unfold Mapper.isControl at h
  unfold Mapper.write
  split
  · rename_i r hb; rw [hb] at h; simp at h; rw [if_neg (by omega)]
  · rename_i r hb; rw [hb] at h; simp at h; rw [if_neg (by simp [h])]

/-! ### The invariants -/

theorem romPage_bounds {n : Nat} (hn : 1 ≤ n) (k : Nat) : 1 ≤ romPage n k ∧ romPage n k ≤ n := by
  have := Nat.mod_lt k (show n > 0 by omega)
  unfold romPage
  omega

/-- The Sega table with cartridge RAM mapped (20_memory R100). -/
theorem segaRemap_on (n : Nat) (r : SegaBank) (k : Nat) (h : r.mapped = some k) :
    segaRemap n r = (#v[romPage n (2 * bankNumber r.ctl1), romPage n (2 * bankNumber r.ctl1 + 1),
      romPage n (2 * bankNumber r.ctl2), romPage n (2 * bankNumber r.ctl2 + 1),
      ramFirstPage r.ram k, ramFirstPage r.ram k + 1, 0, 0], 0b11110000) := by
  unfold segaRemap; rw [h]

/-- The Sega table with ROM in slot group 2 (20_memory R100). -/
theorem segaRemap_off (n : Nat) (r : SegaBank) (h : r.mapped = none) :
    segaRemap n r = (#v[romPage n (2 * bankNumber r.ctl1), romPage n (2 * bankNumber r.ctl1 + 1),
      romPage n (2 * bankNumber r.ctl2), romPage n (2 * bankNumber r.ctl2 + 1),
      romPage n (2 * bankNumber r.ctl3), romPage n (2 * bankNumber r.ctl3 + 1), 0, 0], 0b11000000) := by
  unfold segaRemap; rw [h]

/-- The Codemasters table with cartridge RAM mapped (20_memory R110). -/
theorem codemastersRemap_on (n : Nat) (r : CodemastersBank) (k : Nat) (h : r.mapped = some k) :
    codemastersRemap n r = (#v[romPage n (2 * bankNumber r.ctl0), romPage n (2 * bankNumber r.ctl0 + 1),
      romPage n (2 * bankNumber r.ctl1), romPage n (2 * bankNumber r.ctl1 + 1),
      romPage n (2 * bankNumber r.ctl2), ramFirstPage r.ram k, 0, 0], 0b11100000) := by
  unfold codemastersRemap; rw [h]

/-- The Codemasters table with ROM alone (20_memory R110). -/
theorem codemastersRemap_off (n : Nat) (r : CodemastersBank) (h : r.mapped = none) :
    codemastersRemap n r = (#v[romPage n (2 * bankNumber r.ctl0), romPage n (2 * bankNumber r.ctl0 + 1),
      romPage n (2 * bankNumber r.ctl1), romPage n (2 * bankNumber r.ctl1 + 1),
      romPage n (2 * bankNumber r.ctl2), romPage n (2 * bankNumber r.ctl2 + 1), 0, 0], 0b11000000) := by
  unfold codemastersRemap; rw [h]

/-- What every entry of the remap function's table is: system RAM, writable; a ROM page, not writable; or a page of the mapped cartridge
RAM bank, writable (20_memory R100, R110). -/
theorem remapOf_entry (n : Nat) (hn : 1 ≤ n) (b : Bank) (i : Fin 8) :
    ((remapOf n b).1[i] = 0 ∧ (remapOf n b).2.getLsbD i = true) ∨
    (1 ≤ (remapOf n b).1[i] ∧ (remapOf n b).1[i] ≤ n ∧ (remapOf n b).2.getLsbD i = false) ∨
    (∃ k j, b.mapped = some k ∧ j < b.ramPages ∧ (remapOf n b).1[i] = ramFirstPage b.ram k + j ∧ (remapOf n b).2.getLsbD i = true) := by
  have key := romPage_bounds hn
  cases b with
  | sega r =>
    cases hm : r.mapped with
    | none =>
      rw [show remapOf n (.sega r) = _ from segaRemap_off n r hm]
      fin_cases i <;> first
        | exact .inl ⟨rfl, by simp⟩
        | exact .inr (.inl ⟨(key _).1, (key _).2, by simp⟩)
    | some k =>
      rw [show remapOf n (.sega r) = _ from segaRemap_on n r k hm]
      fin_cases i <;> first
        | exact .inl ⟨rfl, by simp⟩
        | exact .inr (.inl ⟨(key _).1, (key _).2, by simp⟩)
        | exact .inr (.inr ⟨k, 0, hm, Nat.zero_lt_two, rfl, by simp⟩)
        | exact .inr (.inr ⟨k, 1, hm, Nat.one_lt_two, rfl, by simp⟩)
  | codemasters r =>
    cases hm : r.mapped with
    | none =>
      rw [show remapOf n (.codemasters r) = _ from codemastersRemap_off n r hm]
      fin_cases i <;> first
        | exact .inl ⟨rfl, by simp⟩
        | exact .inr (.inl ⟨(key _).1, (key _).2, by simp⟩)
    | some k =>
      rw [show remapOf n (.codemasters r) = _ from codemastersRemap_on n r k hm]
      fin_cases i <;> first
        | exact .inl ⟨rfl, by simp⟩
        | exact .inr (.inl ⟨(key _).1, (key _).2, by simp⟩)
        | exact .inr (.inr ⟨k, 0, hm, Nat.zero_lt_one, rfl, by simp⟩)

/-- The mapped bank's first page lies behind the ROM, all its pages exist (10_state R40, R44). -/
theorem Bank.ok.firstPage {m : Mapper} {b : Bank} (h : b.ok m) {k : Nat} (hk : b.mapped = some k) :
    m.romPages < ramFirstPage b.ram k ∧ ramFirstPage b.ram k + b.ramPages ≤ m.pages.length := by
  obtain ⟨p, hp⟩ := h.allocated k hk
  have := h.inRange (some p) (List.mem_of_getElem? hp)
  simpa [ramFirstPage, hp, ramPageOk] using this

/-- A slot that is writable maps system RAM or cartridge RAM, never a ROM page (10_state R40). -/
theorem Mapper.Inv.writable_slot {m : Mapper} (h : m.Inv) (i : Fin 8) (hw : m.writable.getLsbD i = true) :
    m.slot[i] = 0 ∨ m.romPages < m.slot[i] := by
  obtain ⟨hs, hwr⟩ := Prod.ext_iff.mp h.table
  simp only at hs hwr
  rw [hwr] at hw
  rw [hs]
  rcases remapOf_entry m.romPages h.rom m.bank i with ⟨h0, -⟩ | ⟨-, -, hf⟩ | ⟨k, j, hk, -, hp, -⟩
  · exact .inl h0
  · rw [hw] at hf; cases hf
  · have := (h.bank.firstPage hk).1; right; omega

/-- The slot table indexes existing pages only (10_state R41). -/
theorem Mapper.Inv.slot_lt {m : Mapper} (h : m.Inv) (i : Fin 8) : m.slot[i] < m.pages.length := by
  have hs : m.slot = (remapOf m.romPages m.bank).1 := (Prod.ext_iff.mp h.table).1
  have hl := h.length
  rw [hs]
  rcases remapOf_entry m.romPages h.rom m.bank i with ⟨h0, -⟩ | ⟨-, h1, -⟩ | ⟨k, j, hk, hj, hp, -⟩
  · omega
  · omega
  · have := (h.bank.firstPage hk).2; omega

theorem ramPageOk_mono {m m' : Mapper} {k : Nat} {o : Option Nat} (hr : m'.romPages = m.romPages)
    (hl : m.pages.length ≤ m'.pages.length) (h : ramPageOk m k o) : ramPageOk m' k o := by
  cases o with
  | none => trivial
  | some p => exact ⟨by rw [hr]; exact h.1, Nat.le_trans h.2 hl⟩

/-- Registers that map no cartridge RAM, with no bank allocated, as in a fresh session (10_state R62). -/
theorem Bank.ok_of_unallocated {m : Mapper} {b : Bank} (hr : ∀ o ∈ b.ram, o = none) (hm : b.mapped = none) : b.ok m :=
  ⟨fun o ho => by rw [hr o ho]; trivial, fun k hk => by rw [hm] at hk; cases hk⟩

theorem Bank.ok.mono {m m' : Mapper} {b : Bank} (hr : m'.romPages = m.romPages) (hl : m.pages.length ≤ m'.pages.length)
    (h : b.ok m) : b.ok m' := ⟨fun o ho => ramPageOk_mono hr hl (h.inRange o ho), h.allocated⟩

theorem ordinaryWrite_inv {m : Mapper} (h : m.Inv) (a : Word) (v : Byte) : (m.ordinaryWrite a v).1.Inv := by
  obtain ⟨hs, hw, hb, hr, hl⟩ := ordinaryWrite_frame m a v
  refine ⟨by rw [hr]; exact h.rom, by rw [hr, hl]; exact h.length, by rw [hb]; exact h.bank.mono hr (Nat.le_of_eq hl.symm),
    by rw [hs, hw, hr, hb]; exact h.table, ?_⟩
  · intro p hp
    unfold Mapper.ordinaryWrite at hp
    simp only at hp
    split at hp
    · simp only [Mapper.setPageByte] at hp
      obtain ⟨j, hj, rfl⟩ := List.mem_iff_getElem.mp hp
      simp only [List.length_modify] at hj
      rw [List.getElem_modify]
      split
      · exact Memory.wf_write (h.pages _ (List.getElem_mem hj)) (offsetOf_lt a) v
      · exact h.pages _ (List.getElem_mem hj)
    · exact h.pages p hp

/-- A control write keeps the mapper's invariants, whatever it puts into the registers (10_state R40 to R44). -/
theorem controlWritten_inv {m : Mapper} (h : m.Inv) (bank : Bank) (hb : ∀ o ∈ bank.ram, ramPageOk m bank.ramPages o) (i : Nat)
    (v : Byte) : (m.controlWritten bank i v).1.Inv := by
  have hp := controlWritten_pages m bank i v
  have hlen := h.length
  refine ⟨h.rom, ?_, ⟨?_, ?_⟩, remapped_table _, ?_⟩
  · rw [controlWritten_romPages, hp, List.length_append]; omega
  · rw [controlWritten_bank, Bank.ram_withRam, Bank.ramPages_withRam]
    intro o ho
    obtain ⟨k, hk⟩ := List.mem_iff_getElem?.mp ho
    rw [allocate_ram] at hk
    split at hk
    · rename_i hc
      obtain rfl := Option.some.inj hk
      refine ⟨hlen, ?_⟩
      rw [hp, hc.1, Option.bind_some, if_pos hc.2]; simp
    · refine ramPageOk_mono (controlWritten_romPages ..) ?_ (hb o (List.mem_of_getElem? hk))
      rw [hp, List.length_append]; omega
  · rw [controlWritten_bank, Bank.mapped_withRam _ _ (allocate_ram_length ..), Bank.ram_withRam]
    intro k hk
    have hlt := Bank.mapped_lt hk
    rw [allocate_ram, hk, List.getElem?_eq_getElem hlt]
    cases hg : bank.ram[k] with
    | none => exact ⟨m.pages.length, by simp⟩
    | some p => exact ⟨p, by simp⟩
  · intro p hpm
    rw [hp] at hpm
    rcases List.mem_append.mp hpm with hm | hm
    · exact h.pages p hm
    · rw [List.mem_ite_nil_right] at hm
      rw [List.eq_of_mem_replicate hm.2]; rfl

/-- Everything a write can be: the ordinary path, a control write, or (Sega, `SEGA_CTRL_WRITE_THROUGH`) a control write and then the
ordinary path; a control write keeps the variant and `cart_ram` until it allocates (20_memory R95, R102, R112). -/
theorem write_cases (m : Mapper) (thr : Bool) (a : Word) (v : Byte) :
    (m.write thr a v).1 = (m.ordinaryWrite a v).1 ∨
    ∃ bank i, bank.ram = m.bank.ram ∧ bank.ramPages = m.bank.ramPages ∧
      (∀ cfg, cartRamCount cfg bank = cartRamCount cfg m.bank) ∧
      ((m.write thr a v).1 = (m.controlWritten bank i v).1 ∨
        (m.write thr a v).1 = ((m.controlWritten bank i v).1.ordinaryWrite a v).1) := by
  unfold Mapper.write
  split
  · rename_i r hb
    split
    · refine .inr ⟨.sega (r.setCtl (a.extractLsb' 0 2) v), (a.extractLsb' 0 2).toNat, ?_, by rw [hb]; rfl, fun _ => by rw [hb]; rfl, ?_⟩
      · rw [hb]; exact SegaBank.ram_setCtl r _ v
      · cases thr
        · exact .inl rfl
        · exact .inr rfl
    · exact .inl rfl
  · rename_i r hb
    split
    · refine .inr ⟨.codemasters (r.setCtl (a.extractLsb' 14 2) v), (a.extractLsb' 14 2).toNat, ?_, by rw [hb]; rfl,
        fun _ => by rw [hb]; rfl, .inl rfl⟩
      rw [hb]; exact CodemastersBank.ram_setCtl r _ v
    · exact .inl rfl

/-- Every write keeps the mapper's invariants. -/
theorem Mapper.Inv.write {m : Mapper} (h : m.Inv) (thr : Bool) (a : Word) (v : Byte) : (m.write thr a v).1.Inv := by
  obtain he | ⟨bank, i, hram, hp, -, hw⟩ := write_cases m thr a v
  · rw [he]; exact ordinaryWrite_inv h a v
  · have hc := controlWritten_inv h bank (by rw [hram, hp]; exact h.bank.inRange) i v
    obtain he | he := hw <;> rw [he]
    · exact hc
    · exact ordinaryWrite_inv hc a v

/-- Every list of writes keeps the mapper's invariants. -/
theorem Mapper.Inv.storeAll {m : Mapper} (h : m.Inv) (thr : Bool) (ws : List (Word × Byte)) : (storeAll thr m ws).Inv := by
  induction ws generalizing m with
  | nil => exact h
  | cons w rest ih => exact ih (h.write thr w.1 w.2)

/-- No write changes the number of ROM pages. -/
@[simp] theorem write_romPages (m : Mapper) (thr : Bool) (a : Word) (v : Byte) : (m.write thr a v).1.romPages = m.romPages := by
  obtain he | ⟨bank, i, -, -, -, he | he⟩ := write_cases m thr a v <;> rw [he]
  · exact (ordinaryWrite_frame _ a v).2.2.2.1
  · rfl
  · exact (ordinaryWrite_frame _ a v).2.2.2.1

theorem ordinaryWrite_rom {m : Mapper} (h : m.Inv) (a : Word) (v : Byte) (p o : Nat) (h1 : 1 ≤ p) (h2 : p ≤ m.romPages) :
    (m.ordinaryWrite a v).1.pageByte p o = m.pageByte p o := by
  refine ordinaryWrite_pageByte m a v p o ?_
  unfold Mapper.storeTarget
  split
  · rename_i hw
    have := h.writable_slot (slotOf a) hw
    intro he
    simp only [Option.some.injEq, Prod.mk.injEq] at he
    omega
  · simp

/-- No write changes a byte of a ROM page (10_state R40). -/
theorem Mapper.Inv.write_rom {m : Mapper} (h : m.Inv) (thr : Bool) (a : Word) (v : Byte) (p o : Nat) (h1 : 1 ≤ p)
    (h2 : p ≤ m.romPages) : (m.write thr a v).1.pageByte p o = m.pageByte p o := by
  obtain he | ⟨bank, i, hram, hp, -, hw⟩ := write_cases m thr a v
  · rw [he]; exact ordinaryWrite_rom h a v p o h1 h2
  · have hc := controlWritten_inv h bank (by rw [hram, hp]; exact h.bank.inRange) i v
    have hb := controlWritten_pageByte m bank i v p o
    obtain he | he := hw <;> rw [he]
    · exact hb
    · exact (ordinaryWrite_rom hc a v p o h1 h2).trans hb

/-- No write removes a page. -/
theorem write_pages_length (m : Mapper) (thr : Bool) (a : Word) (v : Byte) : m.pages.length ≤ (m.write thr a v).1.pages.length := by
  have ho : ∀ m' : Mapper, (m'.ordinaryWrite a v).1.pages.length = m'.pages.length := fun m' => (ordinaryWrite_frame m' a v).2.2.2.2
  obtain he | ⟨bank, i, -, -, -, he | he⟩ := write_cases m thr a v <;> rw [he]
  · exact Nat.le_of_eq (ho m).symm
  all_goals first | rw [ho] | skip
  all_goals rw [controlWritten_pages, List.length_append]; exact Nat.le_add_right _ _

/-- No write changes the number of cartridge RAM banks or the variant it belongs to (10_state R44, R59). -/
theorem write_cartRamCount {m : Mapper} {cfg : Config} (thr : Bool) (a : Word) (v : Byte)
    (h : m.bank.ram.length = cartRamCount cfg m.bank) :
    (m.write thr a v).1.bank.ram.length = cartRamCount cfg (m.write thr a v).1.bank := by
  have ho : ∀ m' : Mapper, (m'.ordinaryWrite a v).1.bank = m'.bank := fun m' => (ordinaryWrite_frame m' a v).2.2.1
  have hcount : ∀ (b : Bank) (ram : List (Option Nat)), cartRamCount cfg (b.withRam ram) = cartRamCount cfg b :=
    fun b ram => by cases b <;> rfl
  obtain he | ⟨bank, i, hram, -, hcfg, he | he⟩ := write_cases m thr a v <;> rw [he]
  · rw [ho]; exact h
  all_goals first | rw [ho] | skip
  all_goals rw [controlWritten_bank, Bank.ram_withRam, allocate_ram_length, hcount, hram, hcfg]; exact h

end Sys2Proof.Machine
end

