-- ==== Sys2Proof/Laws/State.lean ====
section
/-! SUPPORT. One lemma per field per update of the state: what each named update writes, and that it leaves every other field alone. -/

namespace Sys2Proof.Machine

@[simp] theorem State.addCycles_cpu_a (s : State) (n : Nat) : (s.addCycles n).cpu.a = s.cpu.a := rfl
@[simp] theorem State.addCycles_cpu_f (s : State) (n : Nat) : (s.addCycles n).cpu.f = s.cpu.f := rfl
@[simp] theorem State.addCycles_cpu_b (s : State) (n : Nat) : (s.addCycles n).cpu.b = s.cpu.b := rfl
@[simp] theorem State.addCycles_cpu_c (s : State) (n : Nat) : (s.addCycles n).cpu.c = s.cpu.c := rfl
@[simp] theorem State.addCycles_cpu_d (s : State) (n : Nat) : (s.addCycles n).cpu.d = s.cpu.d := rfl
@[simp] theorem State.addCycles_cpu_e (s : State) (n : Nat) : (s.addCycles n).cpu.e = s.cpu.e := rfl
@[simp] theorem State.addCycles_cpu_h (s : State) (n : Nat) : (s.addCycles n).cpu.h = s.cpu.h := rfl
@[simp] theorem State.addCycles_cpu_l (s : State) (n : Nat) : (s.addCycles n).cpu.l = s.cpu.l := rfl
@[simp] theorem State.addCycles_cpu_aShadow (s : State) (n : Nat) : (s.addCycles n).cpu.a' = s.cpu.a' := rfl
@[simp] theorem State.addCycles_cpu_fShadow (s : State) (n : Nat) : (s.addCycles n).cpu.f' = s.cpu.f' := rfl
@[simp] theorem State.addCycles_cpu_bcShadow (s : State) (n : Nat) : (s.addCycles n).cpu.bc' = s.cpu.bc' := rfl
@[simp] theorem State.addCycles_cpu_deShadow (s : State) (n : Nat) : (s.addCycles n).cpu.de' = s.cpu.de' := rfl
@[simp] theorem State.addCycles_cpu_hlShadow (s : State) (n : Nat) : (s.addCycles n).cpu.hl' = s.cpu.hl' := rfl
@[simp] theorem State.addCycles_cpu_ix (s : State) (n : Nat) : (s.addCycles n).cpu.ix = s.cpu.ix := rfl
@[simp] theorem State.addCycles_cpu_iy (s : State) (n : Nat) : (s.addCycles n).cpu.iy = s.cpu.iy := rfl
@[simp] theorem State.addCycles_cpu_sp (s : State) (n : Nat) : (s.addCycles n).cpu.sp = s.cpu.sp := rfl
@[simp] theorem State.addCycles_cpu_pc (s : State) (n : Nat) : (s.addCycles n).cpu.pc = s.cpu.pc := rfl
@[simp] theorem State.addCycles_cpu_i (s : State) (n : Nat) : (s.addCycles n).cpu.i = s.cpu.i := rfl
@[simp] theorem State.addCycles_cpu_r (s : State) (n : Nat) : (s.addCycles n).cpu.r = s.cpu.r := rfl
@[simp] theorem State.addCycles_cpu_iff1 (s : State) (n : Nat) : (s.addCycles n).cpu.iff1 = s.cpu.iff1 := rfl
@[simp] theorem State.addCycles_cpu_iff2 (s : State) (n : Nat) : (s.addCycles n).cpu.iff2 = s.cpu.iff2 := rfl
@[simp] theorem State.addCycles_cpu_im (s : State) (n : Nat) : (s.addCycles n).cpu.im = s.cpu.im := rfl
@[simp] theorem State.addCycles_cpu_halted (s : State) (n : Nat) : (s.addCycles n).cpu.halted = s.cpu.halted := rfl
@[simp] theorem State.addCycles_cpu_intInhibit (s : State) (n : Nat) : (s.addCycles n).cpu.intInhibit = s.cpu.intInhibit := rfl
@[simp] theorem State.addCycles_cpu_nmiPending (s : State) (n : Nat) : (s.addCycles n).cpu.nmiPending = s.cpu.nmiPending := rfl
@[simp] theorem State.addCycles_cpu_cycles (s : State) (n : Nat) : (s.addCycles n).cpu.cycles = s.cpu.cycles + n := rfl
@[simp] theorem State.addCycles_cfg (s : State) (n : Nat) : (s.addCycles n).cfg = s.cfg := rfl
@[simp] theorem State.addCycles_mapper (s : State) (n : Nat) : (s.addCycles n).mapper = s.mapper := rfl
@[simp] theorem State.addCycles_vdp (s : State) (n : Nat) : (s.addCycles n).vdp = s.vdp := rfl
@[simp] theorem State.addCycles_joypad0 (s : State) (n : Nat) : (s.addCycles n).joypad0 = s.joypad0 := rfl
@[simp] theorem State.addCycles_joypad1 (s : State) (n : Nat) : (s.addCycles n).joypad1 = s.joypad1 := rfl
@[simp] theorem State.addCycles_events (s : State) (n : Nat) : (s.addCycles n).events = s.events := rfl
@[simp] theorem State.addCycles_draws (s : State) (n : Nat) : (s.addCycles n).draws = s.draws := rfl

@[simp] theorem State.setPc_cpu_a (s : State) (v : Word) : (s.setPc v).cpu.a = s.cpu.a := rfl
@[simp] theorem State.setPc_cpu_f (s : State) (v : Word) : (s.setPc v).cpu.f = s.cpu.f := rfl
@[simp] theorem State.setPc_cpu_b (s : State) (v : Word) : (s.setPc v).cpu.b = s.cpu.b := rfl
@[simp] theorem State.setPc_cpu_c (s : State) (v : Word) : (s.setPc v).cpu.c = s.cpu.c := rfl
@[simp] theorem State.setPc_cpu_d (s : State) (v : Word) : (s.setPc v).cpu.d = s.cpu.d := rfl
@[simp] theorem State.setPc_cpu_e (s : State) (v : Word) : (s.setPc v).cpu.e = s.cpu.e := rfl
@[simp] theorem State.setPc_cpu_h (s : State) (v : Word) : (s.setPc v).cpu.h = s.cpu.h := rfl
@[simp] theorem State.setPc_cpu_l (s : State) (v : Word) : (s.setPc v).cpu.l = s.cpu.l := rfl
@[simp] theorem State.setPc_cpu_aShadow (s : State) (v : Word) : (s.setPc v).cpu.a' = s.cpu.a' := rfl
@[simp] theorem State.setPc_cpu_fShadow (s : State) (v : Word) : (s.setPc v).cpu.f' = s.cpu.f' := rfl
@[simp] theorem State.setPc_cpu_bcShadow (s : State) (v : Word) : (s.setPc v).cpu.bc' = s.cpu.bc' := rfl
@[simp] theorem State.setPc_cpu_deShadow (s : State) (v : Word) : (s.setPc v).cpu.de' = s.cpu.de' := rfl
@[simp] theorem State.setPc_cpu_hlShadow (s : State) (v : Word) : (s.setPc v).cpu.hl' = s.cpu.hl' := rfl
@[simp] theorem State.setPc_cpu_ix (s : State) (v : Word) : (s.setPc v).cpu.ix = s.cpu.ix := rfl
@[simp] theorem State.setPc_cpu_iy (s : State) (v : Word) : (s.setPc v).cpu.iy = s.cpu.iy := rfl
@[simp] theorem State.setPc_cpu_sp (s : State) (v : Word) : (s.setPc v).cpu.sp = s.cpu.sp := rfl
@[simp] theorem State.setPc_cpu_pc (s : State) (v : Word) : (s.setPc v).cpu.pc = v := rfl
@[simp] theorem State.setPc_cpu_i (s : State) (v : Word) : (s.setPc v).cpu.i = s.cpu.i := rfl
@[simp] theorem State.setPc_cpu_r (s : State) (v : Word) : (s.setPc v).cpu.r = s.cpu.r := rfl
@[simp] theorem State.setPc_cpu_iff1 (s : State) (v : Word) : (s.setPc v).cpu.iff1 = s.cpu.iff1 := rfl
@[simp] theorem State.setPc_cpu_iff2 (s : State) (v : Word) : (s.setPc v).cpu.iff2 = s.cpu.iff2 := rfl
@[simp] theorem State.setPc_cpu_im (s : State) (v : Word) : (s.setPc v).cpu.im = s.cpu.im := rfl
@[simp] theorem State.setPc_cpu_halted (s : State) (v : Word) : (s.setPc v).cpu.halted = s.cpu.halted := rfl
@[simp] theorem State.setPc_cpu_intInhibit (s : State) (v : Word) : (s.setPc v).cpu.intInhibit = s.cpu.intInhibit := rfl
@[simp] theorem State.setPc_cpu_nmiPending (s : State) (v : Word) : (s.setPc v).cpu.nmiPending = s.cpu.nmiPending := rfl
@[simp] theorem State.setPc_cpu_cycles (s : State) (v : Word) : (s.setPc v).cpu.cycles = s.cpu.cycles := rfl
@[simp] theorem State.setPc_cfg (s : State) (v : Word) : (s.setPc v).cfg = s.cfg := rfl
@[simp] theorem State.setPc_mapper (s : State) (v : Word) : (s.setPc v).mapper = s.mapper := rfl
@[simp] theorem State.setPc_vdp (s : State) (v : Word) : (s.setPc v).vdp = s.vdp := rfl
@[simp] theorem State.setPc_joypad0 (s : State) (v : Word) : (s.setPc v).joypad0 = s.joypad0 := rfl
@[simp] theorem State.setPc_joypad1 (s : State) (v : Word) : (s.setPc v).joypad1 = s.joypad1 := rfl
@[simp] theorem State.setPc_events (s : State) (v : Word) : (s.setPc v).events = s.events := rfl
@[simp] theorem State.setPc_draws (s : State) (v : Word) : (s.setPc v).draws = s.draws := rfl

@[simp] theorem State.setSp_cpu_a (s : State) (v : Word) : (s.setSp v).cpu.a = s.cpu.a := rfl
@[simp] theorem State.setSp_cpu_f (s : State) (v : Word) : (s.setSp v).cpu.f = s.cpu.f := rfl
@[simp] theorem State.setSp_cpu_b (s : State) (v : Word) : (s.setSp v).cpu.b = s.cpu.b := rfl
@[simp] theorem State.setSp_cpu_c (s : State) (v : Word) : (s.setSp v).cpu.c = s.cpu.c := rfl
@[simp] theorem State.setSp_cpu_d (s : State) (v : Word) : (s.setSp v).cpu.d = s.cpu.d := rfl
@[simp] theorem State.setSp_cpu_e (s : State) (v : Word) : (s.setSp v).cpu.e = s.cpu.e := rfl
@[simp] theorem State.setSp_cpu_h (s : State) (v : Word) : (s.setSp v).cpu.h = s.cpu.h := rfl
@[simp] theorem State.setSp_cpu_l (s : State) (v : Word) : (s.setSp v).cpu.l = s.cpu.l := rfl
@[simp] theorem State.setSp_cpu_aShadow (s : State) (v : Word) : (s.setSp v).cpu.a' = s.cpu.a' := rfl
@[simp] theorem State.setSp_cpu_fShadow (s : State) (v : Word) : (s.setSp v).cpu.f' = s.cpu.f' := rfl
@[simp] theorem State.setSp_cpu_bcShadow (s : State) (v : Word) : (s.setSp v).cpu.bc' = s.cpu.bc' := rfl
@[simp] theorem State.setSp_cpu_deShadow (s : State) (v : Word) : (s.setSp v).cpu.de' = s.cpu.de' := rfl
@[simp] theorem State.setSp_cpu_hlShadow (s : State) (v : Word) : (s.setSp v).cpu.hl' = s.cpu.hl' := rfl
@[simp] theorem State.setSp_cpu_ix (s : State) (v : Word) : (s.setSp v).cpu.ix = s.cpu.ix := rfl
@[simp] theorem State.setSp_cpu_iy (s : State) (v : Word) : (s.setSp v).cpu.iy = s.cpu.iy := rfl
@[simp] theorem State.setSp_cpu_sp (s : State) (v : Word) : (s.setSp v).cpu.sp = v := rfl
@[simp] theorem State.setSp_cpu_pc (s : State) (v : Word) : (s.setSp v).cpu.pc = s.cpu.pc := rfl
@[simp] theorem State.setSp_cpu_i (s : State) (v : Word) : (s.setSp v).cpu.i = s.cpu.i := rfl
@[simp] theorem State.setSp_cpu_r (s : State) (v : Word) : (s.setSp v).cpu.r = s.cpu.r := rfl
@[simp] theorem State.setSp_cpu_iff1 (s : State) (v : Word) : (s.setSp v).cpu.iff1 = s.cpu.iff1 := rfl
@[simp] theorem State.setSp_cpu_iff2 (s : State) (v : Word) : (s.setSp v).cpu.iff2 = s.cpu.iff2 := rfl
@[simp] theorem State.setSp_cpu_im (s : State) (v : Word) : (s.setSp v).cpu.im = s.cpu.im := rfl
@[simp] theorem State.setSp_cpu_halted (s : State) (v : Word) : (s.setSp v).cpu.halted = s.cpu.halted := rfl
@[simp] theorem State.setSp_cpu_intInhibit (s : State) (v : Word) : (s.setSp v).cpu.intInhibit = s.cpu.intInhibit := rfl
@[simp] theorem State.setSp_cpu_nmiPending (s : State) (v : Word) : (s.setSp v).cpu.nmiPending = s.cpu.nmiPending := rfl
@[simp] theorem State.setSp_cpu_cycles (s : State) (v : Word) : (s.setSp v).cpu.cycles = s.cpu.cycles := rfl
@[simp] theorem State.setSp_cfg (s : State) (v : Word) : (s.setSp v).cfg = s.cfg := rfl
@[simp] theorem State.setSp_mapper (s : State) (v : Word) : (s.setSp v).mapper = s.mapper := rfl
@[simp] theorem State.setSp_vdp (s : State) (v : Word) : (s.setSp v).vdp = s.vdp := rfl
@[simp] theorem State.setSp_joypad0 (s : State) (v : Word) : (s.setSp v).joypad0 = s.joypad0 := rfl
@[simp] theorem State.setSp_joypad1 (s : State) (v : Word) : (s.setSp v).joypad1 = s.joypad1 := rfl
@[simp] theorem State.setSp_events (s : State) (v : Word) : (s.setSp v).events = s.events := rfl
@[simp] theorem State.setSp_draws (s : State) (v : Word) : (s.setSp v).draws = s.draws := rfl

@[simp] theorem State.bumpR_cpu_a (s : State) (n : Nat) : (s.bumpR n).cpu.a = s.cpu.a := rfl
@[simp] theorem State.bumpR_cpu_f (s : State) (n : Nat) : (s.bumpR n).cpu.f = s.cpu.f := rfl
@[simp] theorem State.bumpR_cpu_b (s : State) (n : Nat) : (s.bumpR n).cpu.b = s.cpu.b := rfl
@[simp] theorem State.bumpR_cpu_c (s : State) (n : Nat) : (s.bumpR n).cpu.c = s.cpu.c := rfl
@[simp] theorem State.bumpR_cpu_d (s : State) (n : Nat) : (s.bumpR n).cpu.d = s.cpu.d := rfl
@[simp] theorem State.bumpR_cpu_e (s : State) (n : Nat) : (s.bumpR n).cpu.e = s.cpu.e := rfl
@[simp] theorem State.bumpR_cpu_h (s : State) (n : Nat) : (s.bumpR n).cpu.h = s.cpu.h := rfl
@[simp] theorem State.bumpR_cpu_l (s : State) (n : Nat) : (s.bumpR n).cpu.l = s.cpu.l := rfl
@[simp] theorem State.bumpR_cpu_aShadow (s : State) (n : Nat) : (s.bumpR n).cpu.a' = s.cpu.a' := rfl
@[simp] theorem State.bumpR_cpu_fShadow (s : State) (n : Nat) : (s.bumpR n).cpu.f' = s.cpu.f' := rfl
@[simp] theorem State.bumpR_cpu_bcShadow (s : State) (n : Nat) : (s.bumpR n).cpu.bc' = s.cpu.bc' := rfl
@[simp] theorem State.bumpR_cpu_deShadow (s : State) (n : Nat) : (s.bumpR n).cpu.de' = s.cpu.de' := rfl
@[simp] theorem State.bumpR_cpu_hlShadow (s : State) (n : Nat) : (s.bumpR n).cpu.hl' = s.cpu.hl' := rfl
@[simp] theorem State.bumpR_cpu_ix (s : State) (n : Nat) : (s.bumpR n).cpu.ix = s.cpu.ix := rfl
@[simp] theorem State.bumpR_cpu_iy (s : State) (n : Nat) : (s.bumpR n).cpu.iy = s.cpu.iy := rfl
@[simp] theorem State.bumpR_cpu_sp (s : State) (n : Nat) : (s.bumpR n).cpu.sp = s.cpu.sp := rfl
@[simp] theorem State.bumpR_cpu_pc (s : State) (n : Nat) : (s.bumpR n).cpu.pc = s.cpu.pc := rfl
@[simp] theorem State.bumpR_cpu_i (s : State) (n : Nat) : (s.bumpR n).cpu.i = s.cpu.i := rfl
@[simp] theorem State.bumpR_cpu_r (s : State) (n : Nat) : (s.bumpR n).cpu.r = advanceR s.cpu.r n := rfl
@[simp] theorem State.bumpR_cpu_iff1 (s : State) (n : Nat) : (s.bumpR n).cpu.iff1 = s.cpu.iff1 := rfl
@[simp] theorem State.bumpR_cpu_iff2 (s : State) (n : Nat) : (s.bumpR n).cpu.iff2 = s.cpu.iff2 := rfl
@[simp] theorem State.bumpR_cpu_im (s : State) (n : Nat) : (s.bumpR n).cpu.im = s.cpu.im := rfl
@[simp] theorem State.bumpR_cpu_halted (s : State) (n : Nat) : (s.bumpR n).cpu.halted = s.cpu.halted := rfl
@[simp] theorem State.bumpR_cpu_intInhibit (s : State) (n : Nat) : (s.bumpR n).cpu.intInhibit = s.cpu.intInhibit := rfl
@[simp] theorem State.bumpR_cpu_nmiPending (s : State) (n : Nat) : (s.bumpR n).cpu.nmiPending = s.cpu.nmiPending := rfl
@[simp] theorem State.bumpR_cpu_cycles (s : State) (n : Nat) : (s.bumpR n).cpu.cycles = s.cpu.cycles := rfl
@[simp] theorem State.bumpR_cfg (s : State) (n : Nat) : (s.bumpR n).cfg = s.cfg := rfl
@[simp] theorem State.bumpR_mapper (s : State) (n : Nat) : (s.bumpR n).mapper = s.mapper := rfl
@[simp] theorem State.bumpR_vdp (s : State) (n : Nat) : (s.bumpR n).vdp = s.vdp := rfl
@[simp] theorem State.bumpR_joypad0 (s : State) (n : Nat) : (s.bumpR n).joypad0 = s.joypad0 := rfl
@[simp] theorem State.bumpR_joypad1 (s : State) (n : Nat) : (s.bumpR n).joypad1 = s.joypad1 := rfl
@[simp] theorem State.bumpR_events (s : State) (n : Nat) : (s.bumpR n).events = s.events := rfl
@[simp] theorem State.bumpR_draws (s : State) (n : Nat) : (s.bumpR n).draws = s.draws := rfl

@[simp] theorem State.loadF_cpu_a (s : State) (f : Flags) : (s.loadF f).cpu.a = s.cpu.a := rfl
@[simp] theorem State.loadF_cpu_f (s : State) (f : Flags) : (s.loadF f).cpu.f = f := rfl
@[simp] theorem State.loadF_cpu_b (s : State) (f : Flags) : (s.loadF f).cpu.b = s.cpu.b := rfl
@[simp] theorem State.loadF_cpu_c (s : State) (f : Flags) : (s.loadF f).cpu.c = s.cpu.c := rfl
@[simp] theorem State.loadF_cpu_d (s : State) (f : Flags) : (s.loadF f).cpu.d = s.cpu.d := rfl
@[simp] theorem State.loadF_cpu_e (s : State) (f : Flags) : (s.loadF f).cpu.e = s.cpu.e := rfl
@[simp] theorem State.loadF_cpu_h (s : State) (f : Flags) : (s.loadF f).cpu.h = s.cpu.h := rfl
@[simp] theorem State.loadF_cpu_l (s : State) (f : Flags) : (s.loadF f).cpu.l = s.cpu.l := rfl
@[simp] theorem State.loadF_cpu_aShadow (s : State) (f : Flags) : (s.loadF f).cpu.a' = s.cpu.a' := rfl
@[simp] theorem State.loadF_cpu_fShadow (s : State) (f : Flags) : (s.loadF f).cpu.f' = s.cpu.f' := rfl
@[simp] theorem State.loadF_cpu_bcShadow (s : State) (f : Flags) : (s.loadF f).cpu.bc' = s.cpu.bc' := rfl
@[simp] theorem State.loadF_cpu_deShadow (s : State) (f : Flags) : (s.loadF f).cpu.de' = s.cpu.de' := rfl
@[simp] theorem State.loadF_cpu_hlShadow (s : State) (f : Flags) : (s.loadF f).cpu.hl' = s.cpu.hl' := rfl
@[simp] theorem State.loadF_cpu_ix (s : State) (f : Flags) : (s.loadF f).cpu.ix = s.cpu.ix := rfl
@[simp] theorem State.loadF_cpu_iy (s : State) (f : Flags) : (s.loadF f).cpu.iy = s.cpu.iy := rfl
@[simp] theorem State.loadF_cpu_sp (s : State) (f : Flags) : (s.loadF f).cpu.sp = s.cpu.sp := rfl
@[simp] theorem State.loadF_cpu_pc (s : State) (f : Flags) : (s.loadF f).cpu.pc = s.cpu.pc := rfl
@[simp] theorem State.loadF_cpu_i (s : State) (f : Flags) : (s.loadF f).cpu.i = s.cpu.i := rfl
@[simp] theorem State.loadF_cpu_r (s : State) (f : Flags) : (s.loadF f).cpu.r = s.cpu.r := rfl
@[simp] theorem State.loadF_cpu_iff1 (s : State) (f : Flags) : (s.loadF f).cpu.iff1 = s.cpu.iff1 := rfl
@[simp] theorem State.loadF_cpu_iff2 (s : State) (f : Flags) : (s.loadF f).cpu.iff2 = s.cpu.iff2 := rfl
@[simp] theorem State.loadF_cpu_im (s : State) (f : Flags) : (s.loadF f).cpu.im = s.cpu.im := rfl
@[simp] theorem State.loadF_cpu_halted (s : State) (f : Flags) : (s.loadF f).cpu.halted = s.cpu.halted := rfl
@[simp] theorem State.loadF_cpu_intInhibit (s : State) (f : Flags) : (s.loadF f).cpu.intInhibit = s.cpu.intInhibit := rfl
@[simp] theorem State.loadF_cpu_nmiPending (s : State) (f : Flags) : (s.loadF f).cpu.nmiPending = s.cpu.nmiPending := rfl
@[simp] theorem State.loadF_cpu_cycles (s : State) (f : Flags) : (s.loadF f).cpu.cycles = s.cpu.cycles := rfl
@[simp] theorem State.loadF_cfg (s : State) (f : Flags) : (s.loadF f).cfg = s.cfg := rfl
@[simp] theorem State.loadF_mapper (s : State) (f : Flags) : (s.loadF f).mapper = s.mapper := rfl
@[simp] theorem State.loadF_vdp (s : State) (f : Flags) : (s.loadF f).vdp = s.vdp := rfl
@[simp] theorem State.loadF_joypad0 (s : State) (f : Flags) : (s.loadF f).joypad0 = s.joypad0 := rfl
@[simp] theorem State.loadF_joypad1 (s : State) (f : Flags) : (s.loadF f).joypad1 = s.joypad1 := rfl
@[simp] theorem State.loadF_events (s : State) (f : Flags) : (s.loadF f).events = s.events := rfl
@[simp] theorem State.loadF_draws (s : State) (f : Flags) : (s.loadF f).draws = s.draws := rfl

@[simp] theorem State.writeF_cpu_a (s : State) (f : Flags) : (s.writeF f).cpu.a = s.cpu.a := rfl
@[simp] theorem State.writeF_cpu_f (s : State) (f : Flags) : (s.writeF f).cpu.f = f := rfl
@[simp] theorem State.writeF_cpu_b (s : State) (f : Flags) : (s.writeF f).cpu.b = s.cpu.b := rfl
@[simp] theorem State.writeF_cpu_c (s : State) (f : Flags) : (s.writeF f).cpu.c = s.cpu.c := rfl
@[simp] theorem State.writeF_cpu_d (s : State) (f : Flags) : (s.writeF f).cpu.d = s.cpu.d := rfl
@[simp] theorem State.writeF_cpu_e (s : State) (f : Flags) : (s.writeF f).cpu.e = s.cpu.e := rfl
@[simp] theorem State.writeF_cpu_h (s : State) (f : Flags) : (s.writeF f).cpu.h = s.cpu.h := rfl
@[simp] theorem State.writeF_cpu_l (s : State) (f : Flags) : (s.writeF f).cpu.l = s.cpu.l := rfl
@[simp] theorem State.writeF_cpu_aShadow (s : State) (f : Flags) : (s.writeF f).cpu.a' = s.cpu.a' := rfl
@[simp] theorem State.writeF_cpu_fShadow (s : State) (f : Flags) : (s.writeF f).cpu.f' = s.cpu.f' := rfl
@[simp] theorem State.writeF_cpu_bcShadow (s : State) (f : Flags) : (s.writeF f).cpu.bc' = s.cpu.bc' := rfl
@[simp] theorem State.writeF_cpu_deShadow (s : State) (f : Flags) : (s.writeF f).cpu.de' = s.cpu.de' := rfl
@[simp] theorem State.writeF_cpu_hlShadow (s : State) (f : Flags) : (s.writeF f).cpu.hl' = s.cpu.hl' := rfl
@[simp] theorem State.writeF_cpu_ix (s : State) (f : Flags) : (s.writeF f).cpu.ix = s.cpu.ix := rfl
@[simp] theorem State.writeF_cpu_iy (s : State) (f : Flags) : (s.writeF f).cpu.iy = s.cpu.iy := rfl
@[simp] theorem State.writeF_cpu_sp (s : State) (f : Flags) : (s.writeF f).cpu.sp = s.cpu.sp := rfl
@[simp] theorem State.writeF_cpu_pc (s : State) (f : Flags) : (s.writeF f).cpu.pc = s.cpu.pc := rfl
@[simp] theorem State.writeF_cpu_i (s : State) (f : Flags) : (s.writeF f).cpu.i = s.cpu.i := rfl
@[simp] theorem State.writeF_cpu_r (s : State) (f : Flags) : (s.writeF f).cpu.r = s.cpu.r := rfl
@[simp] theorem State.writeF_cpu_iff1 (s : State) (f : Flags) : (s.writeF f).cpu.iff1 = s.cpu.iff1 := rfl
@[simp] theorem State.writeF_cpu_iff2 (s : State) (f : Flags) : (s.writeF f).cpu.iff2 = s.cpu.iff2 := rfl
@[simp] theorem State.writeF_cpu_im (s : State) (f : Flags) : (s.writeF f).cpu.im = s.cpu.im := rfl
@[simp] theorem State.writeF_cpu_halted (s : State) (f : Flags) : (s.writeF f).cpu.halted = s.cpu.halted := rfl
@[simp] theorem State.writeF_cpu_intInhibit (s : State) (f : Flags) : (s.writeF f).cpu.intInhibit = s.cpu.intInhibit := rfl
@[simp] theorem State.writeF_cpu_nmiPending (s : State) (f : Flags) : (s.writeF f).cpu.nmiPending = s.cpu.nmiPending := rfl
@[simp] theorem State.writeF_cpu_cycles (s : State) (f : Flags) : (s.writeF f).cpu.cycles = s.cpu.cycles := rfl
@[simp] theorem State.writeF_cfg (s : State) (f : Flags) : (s.writeF f).cfg = s.cfg := rfl
@[simp] theorem State.writeF_mapper (s : State) (f : Flags) : (s.writeF f).mapper = s.mapper := rfl
@[simp] theorem State.writeF_vdp (s : State) (f : Flags) : (s.writeF f).vdp = s.vdp := rfl
@[simp] theorem State.writeF_joypad0 (s : State) (f : Flags) : (s.writeF f).joypad0 = s.joypad0 := rfl
@[simp] theorem State.writeF_joypad1 (s : State) (f : Flags) : (s.writeF f).joypad1 = s.joypad1 := rfl
@[simp] theorem State.writeF_events (s : State) (f : Flags) : (s.writeF f).events = s.events := rfl
@[simp] theorem State.writeF_draws (s : State) (f : Flags) : (s.writeF f).draws = s.draws + 1 := rfl

@[simp] theorem State.setIx_cpu_a (s : State) (v : Word) : (s.setIx v).cpu.a = s.cpu.a := rfl
@[simp] theorem State.setIx_cpu_f (s : State) (v : Word) : (s.setIx v).cpu.f = s.cpu.f := rfl
@[simp] theorem State.setIx_cpu_b (s : State) (v : Word) : (s.setIx v).cpu.b = s.cpu.b := rfl
@[simp] theorem State.setIx_cpu_c (s : State) (v : Word) : (s.setIx v).cpu.c = s.cpu.c := rfl
@[simp] theorem State.setIx_cpu_d (s : State) (v : Word) : (s.setIx v).cpu.d = s.cpu.d := rfl
@[simp] theorem State.setIx_cpu_e (s : State) (v : Word) : (s.setIx v).cpu.e = s.cpu.e := rfl
@[simp] theorem State.setIx_cpu_h (s : State) (v : Word) : (s.setIx v).cpu.h = s.cpu.h := rfl
@[simp] theorem State.setIx_cpu_l (s : State) (v : Word) : (s.setIx v).cpu.l = s.cpu.l := rfl
@[simp] theorem State.setIx_cpu_aShadow (s : State) (v : Word) : (s.setIx v).cpu.a' = s.cpu.a' := rfl
@[simp] theorem State.setIx_cpu_fShadow (s : State) (v : Word) : (s.setIx v).cpu.f' = s.cpu.f' := rfl
@[simp] theorem State.setIx_cpu_bcShadow (s : State) (v : Word) : (s.setIx v).cpu.bc' = s.cpu.bc' := rfl
@[simp] theorem State.setIx_cpu_deShadow (s : State) (v : Word) : (s.setIx v).cpu.de' = s.cpu.de' := rfl
@[simp] theorem State.setIx_cpu_hlShadow (s : State) (v : Word) : (s.setIx v).cpu.hl' = s.cpu.hl' := rfl
@[simp] theorem State.setIx_cpu_ix (s : State) (v : Word) : (s.setIx v).cpu.ix = v := rfl
@[simp] theorem State.setIx_cpu_iy (s : State) (v : Word) : (s.setIx v).cpu.iy = s.cpu.iy := rfl
@[simp] theorem State.setIx_cpu_sp (s : State) (v : Word) : (s.setIx v).cpu.sp = s.cpu.sp := rfl
@[simp] theorem State.setIx_cpu_pc (s : State) (v : Word) : (s.setIx v).cpu.pc = s.cpu.pc := rfl
@[simp] theorem State.setIx_cpu_i (s : State) (v : Word) : (s.setIx v).cpu.i = s.cpu.i := rfl
@[simp] theorem State.setIx_cpu_r (s : State) (v : Word) : (s.setIx v).cpu.r = s.cpu.r := rfl
@[simp] theorem State.setIx_cpu_iff1 (s : State) (v : Word) : (s.setIx v).cpu.iff1 = s.cpu.iff1 := rfl
@[simp] theorem State.setIx_cpu_iff2 (s : State) (v : Word) : (s.setIx v).cpu.iff2 = s.cpu.iff2 := rfl
@[simp] theorem State.setIx_cpu_im (s : State) (v : Word) : (s.setIx v).cpu.im = s.cpu.im := rfl
@[simp] theorem State.setIx_cpu_halted (s : State) (v : Word) : (s.setIx v).cpu.halted = s.cpu.halted := rfl
@[simp] theorem State.setIx_cpu_intInhibit (s : State) (v : Word) : (s.setIx v).cpu.intInhibit = s.cpu.intInhibit := rfl
@[simp] theorem State.setIx_cpu_nmiPending (s : State) (v : Word) : (s.setIx v).cpu.nmiPending = s.cpu.nmiPending := rfl
@[simp] theorem State.setIx_cpu_cycles (s : State) (v : Word) : (s.setIx v).cpu.cycles = s.cpu.cycles := rfl
@[simp] theorem State.setIx_cfg (s : State) (v : Word) : (s.setIx v).cfg = s.cfg := rfl
@[simp] theorem State.setIx_mapper (s : State) (v : Word) : (s.setIx v).mapper = s.mapper := rfl
@[simp] theorem State.setIx_vdp (s : State) (v : Word) : (s.setIx v).vdp = s.vdp := rfl
@[simp] theorem State.setIx_joypad0 (s : State) (v : Word) : (s.setIx v).joypad0 = s.joypad0 := rfl
@[simp] theorem State.setIx_joypad1 (s : State) (v : Word) : (s.setIx v).joypad1 = s.joypad1 := rfl
@[simp] theorem State.setIx_events (s : State) (v : Word) : (s.setIx v).events = s.events := rfl
@[simp] theorem State.setIx_draws (s : State) (v : Word) : (s.setIx v).draws = s.draws := rfl

@[simp] theorem State.setIy_cpu_a (s : State) (v : Word) : (s.setIy v).cpu.a = s.cpu.a := rfl
@[simp] theorem State.setIy_cpu_f (s : State) (v : Word) : (s.setIy v).cpu.f = s.cpu.f := rfl
@[simp] theorem State.setIy_cpu_b (s : State) (v : Word) : (s.setIy v).cpu.b = s.cpu.b := rfl
@[simp] theorem State.setIy_cpu_c (s : State) (v : Word) : (s.setIy v).cpu.c = s.cpu.c := rfl
@[simp] theorem State.setIy_cpu_d (s : State) (v : Word) : (s.setIy v).cpu.d = s.cpu.d := rfl
@[simp] theorem State.setIy_cpu_e (s : State) (v : Word) : (s.setIy v).cpu.e = s.cpu.e := rfl
@[simp] theorem State.setIy_cpu_h (s : State) (v : Word) : (s.setIy v).cpu.h = s.cpu.h := rfl
@[simp] theorem State.setIy_cpu_l (s : State) (v : Word) : (s.setIy v).cpu.l = s.cpu.l := rfl
@[simp] theorem State.setIy_cpu_aShadow (s : State) (v : Word) : (s.setIy v).cpu.a' = s.cpu.a' := rfl
@[simp] theorem State.setIy_cpu_fShadow (s : State) (v : Word) : (s.setIy v).cpu.f' = s.cpu.f' := rfl
@[simp] theorem State.setIy_cpu_bcShadow (s : State) (v : Word) : (s.setIy v).cpu.bc' = s.cpu.bc' := rfl
@[simp] theorem State.setIy_cpu_deShadow (s : State) (v : Word) : (s.setIy v).cpu.de' = s.cpu.de' := rfl
@[simp] theorem State.setIy_cpu_hlShadow (s : State) (v : Word) : (s.setIy v).cpu.hl' = s.cpu.hl' := rfl
@[simp] theorem State.setIy_cpu_ix (s : State) (v : Word) : (s.setIy v).cpu.ix = s.cpu.ix := rfl
@[simp] theorem State.setIy_cpu_iy (s : State) (v : Word) : (s.setIy v).cpu.iy = v := rfl
@[simp] theorem State.setIy_cpu_sp (s : State) (v : Word) : (s.setIy v).cpu.sp = s.cpu.sp := rfl
@[simp] theorem State.setIy_cpu_pc (s : State) (v : Word) : (s.setIy v).cpu.pc = s.cpu.pc := rfl
@[simp] theorem State.setIy_cpu_i (s : State) (v : Word) : (s.setIy v).cpu.i = s.cpu.i := rfl
@[simp] theorem State.setIy_cpu_r (s : State) (v : Word) : (s.setIy v).cpu.r = s.cpu.r := rfl
@[simp] theorem State.setIy_cpu_iff1 (s : State) (v : Word) : (s.setIy v).cpu.iff1 = s.cpu.iff1 := rfl
@[simp] theorem State.setIy_cpu_iff2 (s : State) (v : Word) : (s.setIy v).cpu.iff2 = s.cpu.iff2 := rfl
@[simp] theorem State.setIy_cpu_im (s : State) (v : Word) : (s.setIy v).cpu.im = s.cpu.im := rfl
@[simp] theorem State.setIy_cpu_halted (s : State) (v : Word) : (s.setIy v).cpu.halted = s.cpu.halted := rfl
@[simp] theorem State.setIy_cpu_intInhibit (s : State) (v : Word) : (s.setIy v).cpu.intInhibit = s.cpu.intInhibit := rfl
@[simp] theorem State.setIy_cpu_nmiPending (s : State) (v : Word) : (s.setIy v).cpu.nmiPending = s.cpu.nmiPending := rfl
@[simp] theorem State.setIy_cpu_cycles (s : State) (v : Word) : (s.setIy v).cpu.cycles = s.cpu.cycles := rfl
@[simp] theorem State.setIy_cfg (s : State) (v : Word) : (s.setIy v).cfg = s.cfg := rfl
@[simp] theorem State.setIy_mapper (s : State) (v : Word) : (s.setIy v).mapper = s.mapper := rfl
@[simp] theorem State.setIy_vdp (s : State) (v : Word) : (s.setIy v).vdp = s.vdp := rfl
@[simp] theorem State.setIy_joypad0 (s : State) (v : Word) : (s.setIy v).joypad0 = s.joypad0 := rfl
@[simp] theorem State.setIy_joypad1 (s : State) (v : Word) : (s.setIy v).joypad1 = s.joypad1 := rfl
@[simp] theorem State.setIy_events (s : State) (v : Word) : (s.setIy v).events = s.events := rfl
@[simp] theorem State.setIy_draws (s : State) (v : Word) : (s.setIy v).draws = s.draws := rfl

@[simp] theorem State.setBc_cpu_a (s : State) (v : Word) : (s.setBc v).cpu.a = s.cpu.a := rfl
@[simp] theorem State.setBc_cpu_f (s : State) (v : Word) : (s.setBc v).cpu.f = s.cpu.f := rfl
@[simp] theorem State.setBc_cpu_b (s : State) (v : Word) : (s.setBc v).cpu.b = hiByte v := rfl
@[simp] theorem State.setBc_cpu_c (s : State) (v : Word) : (s.setBc v).cpu.c = loByte v := rfl
@[simp] theorem State.setBc_cpu_d (s : State) (v : Word) : (s.setBc v).cpu.d = s.cpu.d := rfl
@[simp] theorem State.setBc_cpu_e (s : State) (v : Word) : (s.setBc v).cpu.e = s.cpu.e := rfl
@[simp] theorem State.setBc_cpu_h (s : State) (v : Word) : (s.setBc v).cpu.h = s.cpu.h := rfl
@[simp] theorem State.setBc_cpu_l (s : State) (v : Word) : (s.setBc v).cpu.l = s.cpu.l := rfl
@[simp] theorem State.setBc_cpu_aShadow (s : State) (v : Word) : (s.setBc v).cpu.a' = s.cpu.a' := rfl
@[simp] theorem State.setBc_cpu_fShadow (s : State) (v : Word) : (s.setBc v).cpu.f' = s.cpu.f' := rfl
@[simp] theorem State.setBc_cpu_bcShadow (s : State) (v : Word) : (s.setBc v).cpu.bc' = s.cpu.bc' := rfl
@[simp] theorem State.setBc_cpu_deShadow (s : State) (v : Word) : (s.setBc v).cpu.de' = s.cpu.de' := rfl
@[simp] theorem State.setBc_cpu_hlShadow (s : State) (v : Word) : (s.setBc v).cpu.hl' = s.cpu.hl' := rfl
@[simp] theorem State.setBc_cpu_ix (s : State) (v : Word) : (s.setBc v).cpu.ix = s.cpu.ix := rfl
@[simp] theorem State.setBc_cpu_iy (s : State) (v : Word) : (s.setBc v).cpu.iy = s.cpu.iy := rfl
@[simp] theorem State.setBc_cpu_sp (s : State) (v : Word) : (s.setBc v).cpu.sp = s.cpu.sp := rfl
@[simp] theorem State.setBc_cpu_pc (s : State) (v : Word) : (s.setBc v).cpu.pc = s.cpu.pc := rfl
@[simp] theorem State.setBc_cpu_i (s : State) (v : Word) : (s.setBc v).cpu.i = s.cpu.i := rfl
@[simp] theorem State.setBc_cpu_r (s : State) (v : Word) : (s.setBc v).cpu.r = s.cpu.r := rfl
@[simp] theorem State.setBc_cpu_iff1 (s : State) (v : Word) : (s.setBc v).cpu.iff1 = s.cpu.iff1 := rfl
@[simp] theorem State.setBc_cpu_iff2 (s : State) (v : Word) : (s.setBc v).cpu.iff2 = s.cpu.iff2 := rfl
@[simp] theorem State.setBc_cpu_im (s : State) (v : Word) : (s.setBc v).cpu.im = s.cpu.im := rfl
@[simp] theorem State.setBc_cpu_halted (s : State) (v : Word) : (s.setBc v).cpu.halted = s.cpu.halted := rfl
@[simp] theorem State.setBc_cpu_intInhibit (s : State) (v : Word) : (s.setBc v).cpu.intInhibit = s.cpu.intInhibit := rfl
@[simp] theorem State.setBc_cpu_nmiPending (s : State) (v : Word) : (s.setBc v).cpu.nmiPending = s.cpu.nmiPending := rfl
@[simp] theorem State.setBc_cpu_cycles (s : State) (v : Word) : (s.setBc v).cpu.cycles = s.cpu.cycles := rfl
@[simp] theorem State.setBc_cfg (s : State) (v : Word) : (s.setBc v).cfg = s.cfg := rfl
@[simp] theorem State.setBc_mapper (s : State) (v : Word) : (s.setBc v).mapper = s.mapper := rfl
@[simp] theorem State.setBc_vdp (s : State) (v : Word) : (s.setBc v).vdp = s.vdp := rfl
@[simp] theorem State.setBc_joypad0 (s : State) (v : Word) : (s.setBc v).joypad0 = s.joypad0 := rfl
@[simp] theorem State.setBc_joypad1 (s : State) (v : Word) : (s.setBc v).joypad1 = s.joypad1 := rfl
@[simp] theorem State.setBc_events (s : State) (v : Word) : (s.setBc v).events = s.events := rfl
@[simp] theorem State.setBc_draws (s : State) (v : Word) : (s.setBc v).draws = s.draws := rfl

@[simp] theorem State.setDe_cpu_a (s : State) (v : Word) : (s.setDe v).cpu.a = s.cpu.a := rfl
@[simp] theorem State.setDe_cpu_f (s : State) (v : Word) : (s.setDe v).cpu.f = s.cpu.f := rfl
@[simp] theorem State.setDe_cpu_b (s : State) (v : Word) : (s.setDe v).cpu.b = s.cpu.b := rfl
@[simp] theorem State.setDe_cpu_c (s : State) (v : Word) : (s.setDe v).cpu.c = s.cpu.c := rfl
@[simp] theorem State.setDe_cpu_d (s : State) (v : Word) : (s.setDe v).cpu.d = hiByte v := rfl
@[simp] theorem State.setDe_cpu_e (s : State) (v : Word) : (s.setDe v).cpu.e = loByte v := rfl
@[simp] theorem State.setDe_cpu_h (s : State) (v : Word) : (s.setDe v).cpu.h = s.cpu.h := rfl
@[simp] theorem State.setDe_cpu_l (s : State) (v : Word) : (s.setDe v).cpu.l = s.cpu.l := rfl
@[simp] theorem State.setDe_cpu_aShadow (s : State) (v : Word) : (s.setDe v).cpu.a' = s.cpu.a' := rfl
@[simp] theorem State.setDe_cpu_fShadow (s : State) (v : Word) : (s.setDe v).cpu.f' = s.cpu.f' := rfl
@[simp] theorem State.setDe_cpu_bcShadow (s : State) (v : Word) : (s.setDe v).cpu.bc' = s.cpu.bc' := rfl
@[simp] theorem State.setDe_cpu_deShadow (s : State) (v : Word) : (s.setDe v).cpu.de' = s.cpu.de' := rfl
@[simp] theorem State.setDe_cpu_hlShadow (s : State) (v : Word) : (s.setDe v).cpu.hl' = s.cpu.hl' := rfl
@[simp] theorem State.setDe_cpu_ix (s : State) (v : Word) : (s.setDe v).cpu.ix = s.cpu.ix := rfl
@[simp] theorem State.setDe_cpu_iy (s : State) (v : Word) : (s.setDe v).cpu.iy = s.cpu.iy := rfl
@[simp] theorem State.setDe_cpu_sp (s : State) (v : Word) : (s.setDe v).cpu.sp = s.cpu.sp := rfl
@[simp] theorem State.setDe_cpu_pc (s : State) (v : Word) : (s.setDe v).cpu.pc = s.cpu.pc := rfl
@[simp] theorem State.setDe_cpu_i (s : State) (v : Word) : (s.setDe v).cpu.i = s.cpu.i := rfl
@[simp] theorem State.setDe_cpu_r (s : State) (v : Word) : (s.setDe v).cpu.r = s.cpu.r := rfl
@[simp] theorem State.setDe_cpu_iff1 (s : State) (v : Word) : (s.setDe v).cpu.iff1 = s.cpu.iff1 := rfl
@[simp] theorem State.setDe_cpu_iff2 (s : State) (v : Word) : (s.setDe v).cpu.iff2 = s.cpu.iff2 := rfl
@[simp] theorem State.setDe_cpu_im (s : State) (v : Word) : (s.setDe v).cpu.im = s.cpu.im := rfl
@[simp] theorem State.setDe_cpu_halted (s : State) (v : Word) : (s.setDe v).cpu.halted = s.cpu.halted := rfl
@[simp] theorem State.setDe_cpu_intInhibit (s : State) (v : Word) : (s.setDe v).cpu.intInhibit = s.cpu.intInhibit := rfl
@[simp] theorem State.setDe_cpu_nmiPending (s : State) (v : Word) : (s.setDe v).cpu.nmiPending = s.cpu.nmiPending := rfl
@[simp] theorem State.setDe_cpu_cycles (s : State) (v : Word) : (s.setDe v).cpu.cycles = s.cpu.cycles := rfl
@[simp] theorem State.setDe_cfg (s : State) (v : Word) : (s.setDe v).cfg = s.cfg := rfl
@[simp] theorem State.setDe_mapper (s : State) (v : Word) : (s.setDe v).mapper = s.mapper := rfl
@[simp] theorem State.setDe_vdp (s : State) (v : Word) : (s.setDe v).vdp = s.vdp := rfl
@[simp] theorem State.setDe_joypad0 (s : State) (v : Word) : (s.setDe v).joypad0 = s.joypad0 := rfl
@[simp] theorem State.setDe_joypad1 (s : State) (v : Word) : (s.setDe v).joypad1 = s.joypad1 := rfl
@[simp] theorem State.setDe_events (s : State) (v : Word) : (s.setDe v).events = s.events := rfl
@[simp] theorem State.setDe_draws (s : State) (v : Word) : (s.setDe v).draws = s.draws := rfl

@[simp] theorem State.setHl_cpu_a (s : State) (v : Word) : (s.setHl v).cpu.a = s.cpu.a := rfl
@[simp] theorem State.setHl_cpu_f (s : State) (v : Word) : (s.setHl v).cpu.f = s.cpu.f := rfl
@[simp] theorem State.setHl_cpu_b (s : State) (v : Word) : (s.setHl v).cpu.b = s.cpu.b := rfl
@[simp] theorem State.setHl_cpu_c (s : State) (v : Word) : (s.setHl v).cpu.c = s.cpu.c := rfl
@[simp] theorem State.setHl_cpu_d (s : State) (v : Word) : (s.setHl v).cpu.d = s.cpu.d := rfl
@[simp] theorem State.setHl_cpu_e (s : State) (v : Word) : (s.setHl v).cpu.e = s.cpu.e := rfl
@[simp] theorem State.setHl_cpu_h (s : State) (v : Word) : (s.setHl v).cpu.h = hiByte v := rfl
@[simp] theorem State.setHl_cpu_l (s : State) (v : Word) : (s.setHl v).cpu.l = loByte v := rfl
@[simp] theorem State.setHl_cpu_aShadow (s : State) (v : Word) : (s.setHl v).cpu.a' = s.cpu.a' := rfl
@[simp] theorem State.setHl_cpu_fShadow (s : State) (v : Word) : (s.setHl v).cpu.f' = s.cpu.f' := rfl
@[simp] theorem State.setHl_cpu_bcShadow (s : State) (v : Word) : (s.setHl v).cpu.bc' = s.cpu.bc' := rfl
@[simp] theorem State.setHl_cpu_deShadow (s : State) (v : Word) : (s.setHl v).cpu.de' = s.cpu.de' := rfl
@[simp] theorem State.setHl_cpu_hlShadow (s : State) (v : Word) : (s.setHl v).cpu.hl' = s.cpu.hl' := rfl
@[simp] theorem State.setHl_cpu_ix (s : State) (v : Word) : (s.setHl v).cpu.ix = s.cpu.ix := rfl
@[simp] theorem State.setHl_cpu_iy (s : State) (v : Word) : (s.setHl v).cpu.iy = s.cpu.iy := rfl
@[simp] theorem State.setHl_cpu_sp (s : State) (v : Word) : (s.setHl v).cpu.sp = s.cpu.sp := rfl
@[simp] theorem State.setHl_cpu_pc (s : State) (v : Word) : (s.setHl v).cpu.pc = s.cpu.pc := rfl
@[simp] theorem State.setHl_cpu_i (s : State) (v : Word) : (s.setHl v).cpu.i = s.cpu.i := rfl
@[simp] theorem State.setHl_cpu_r (s : State) (v : Word) : (s.setHl v).cpu.r = s.cpu.r := rfl
@[simp] theorem State.setHl_cpu_iff1 (s : State) (v : Word) : (s.setHl v).cpu.iff1 = s.cpu.iff1 := rfl
@[simp] theorem State.setHl_cpu_iff2 (s : State) (v : Word) : (s.setHl v).cpu.iff2 = s.cpu.iff2 := rfl
@[simp] theorem State.setHl_cpu_im (s : State) (v : Word) : (s.setHl v).cpu.im = s.cpu.im := rfl
@[simp] theorem State.setHl_cpu_halted (s : State) (v : Word) : (s.setHl v).cpu.halted = s.cpu.halted := rfl
@[simp] theorem State.setHl_cpu_intInhibit (s : State) (v : Word) : (s.setHl v).cpu.intInhibit = s.cpu.intInhibit := rfl
@[simp] theorem State.setHl_cpu_nmiPending (s : State) (v : Word) : (s.setHl v).cpu.nmiPending = s.cpu.nmiPending := rfl
@[simp] theorem State.setHl_cpu_cycles (s : State) (v : Word) : (s.setHl v).cpu.cycles = s.cpu.cycles := rfl
@[simp] theorem State.setHl_cfg (s : State) (v : Word) : (s.setHl v).cfg = s.cfg := rfl
@[simp] theorem State.setHl_mapper (s : State) (v : Word) : (s.setHl v).mapper = s.mapper := rfl
@[simp] theorem State.setHl_vdp (s : State) (v : Word) : (s.setHl v).vdp = s.vdp := rfl
@[simp] theorem State.setHl_joypad0 (s : State) (v : Word) : (s.setHl v).joypad0 = s.joypad0 := rfl
@[simp] theorem State.setHl_joypad1 (s : State) (v : Word) : (s.setHl v).joypad1 = s.joypad1 := rfl
@[simp] theorem State.setHl_events (s : State) (v : Word) : (s.setHl v).events = s.events := rfl
@[simp] theorem State.setHl_draws (s : State) (v : Word) : (s.setHl v).draws = s.draws := rfl

@[simp] theorem State.setAf_cpu_a (s : State) (v : Word) : (s.setAf v).cpu.a = hiByte v := rfl
@[simp] theorem State.setAf_cpu_f (s : State) (v : Word) : (s.setAf v).cpu.f = Flags.ofByte (loByte v) := rfl
@[simp] theorem State.setAf_cpu_b (s : State) (v : Word) : (s.setAf v).cpu.b = s.cpu.b := rfl
@[simp] theorem State.setAf_cpu_c (s : State) (v : Word) : (s.setAf v).cpu.c = s.cpu.c := rfl
@[simp] theorem State.setAf_cpu_d (s : State) (v : Word) : (s.setAf v).cpu.d = s.cpu.d := rfl
@[simp] theorem State.setAf_cpu_e (s : State) (v : Word) : (s.setAf v).cpu.e = s.cpu.e := rfl
@[simp] theorem State.setAf_cpu_h (s : State) (v : Word) : (s.setAf v).cpu.h = s.cpu.h := rfl
@[simp] theorem State.setAf_cpu_l (s : State) (v : Word) : (s.setAf v).cpu.l = s.cpu.l := rfl
@[simp] theorem State.setAf_cpu_aShadow (s : State) (v : Word) : (s.setAf v).cpu.a' = s.cpu.a' := rfl
@[simp] theorem State.setAf_cpu_fShadow (s : State) (v : Word) : (s.setAf v).cpu.f' = s.cpu.f' := rfl
@[simp] theorem State.setAf_cpu_bcShadow (s : State) (v : Word) : (s.setAf v).cpu.bc' = s.cpu.bc' := rfl
@[simp] theorem State.setAf_cpu_deShadow (s : State) (v : Word) : (s.setAf v).cpu.de' = s.cpu.de' := rfl
@[simp] theorem State.setAf_cpu_hlShadow (s : State) (v : Word) : (s.setAf v).cpu.hl' = s.cpu.hl' := rfl
@[simp] theorem State.setAf_cpu_ix (s : State) (v : Word) : (s.setAf v).cpu.ix = s.cpu.ix := rfl
@[simp] theorem State.setAf_cpu_iy (s : State) (v : Word) : (s.setAf v).cpu.iy = s.cpu.iy := rfl
@[simp] theorem State.setAf_cpu_sp (s : State) (v : Word) : (s.setAf v).cpu.sp = s.cpu.sp := rfl
@[simp] theorem State.setAf_cpu_pc (s : State) (v : Word) : (s.setAf v).cpu.pc = s.cpu.pc := rfl
@[simp] theorem State.setAf_cpu_i (s : State) (v : Word) : (s.setAf v).cpu.i = s.cpu.i := rfl
@[simp] theorem State.setAf_cpu_r (s : State) (v : Word) : (s.setAf v).cpu.r = s.cpu.r := rfl
@[simp] theorem State.setAf_cpu_iff1 (s : State) (v : Word) : (s.setAf v).cpu.iff1 = s.cpu.iff1 := rfl
@[simp] theorem State.setAf_cpu_iff2 (s : State) (v : Word) : (s.setAf v).cpu.iff2 = s.cpu.iff2 := rfl
@[simp] theorem State.setAf_cpu_im (s : State) (v : Word) : (s.setAf v).cpu.im = s.cpu.im := rfl
@[simp] theorem State.setAf_cpu_halted (s : State) (v : Word) : (s.setAf v).cpu.halted = s.cpu.halted := rfl
@[simp] theorem State.setAf_cpu_intInhibit (s : State) (v : Word) : (s.setAf v).cpu.intInhibit = s.cpu.intInhibit := rfl
@[simp] theorem State.setAf_cpu_nmiPending (s : State) (v : Word) : (s.setAf v).cpu.nmiPending = s.cpu.nmiPending := rfl
@[simp] theorem State.setAf_cpu_cycles (s : State) (v : Word) : (s.setAf v).cpu.cycles = s.cpu.cycles := rfl
@[simp] theorem State.setAf_cfg (s : State) (v : Word) : (s.setAf v).cfg = s.cfg := rfl
@[simp] theorem State.setAf_mapper (s : State) (v : Word) : (s.setAf v).mapper = s.mapper := rfl
@[simp] theorem State.setAf_vdp (s : State) (v : Word) : (s.setAf v).vdp = s.vdp := rfl
@[simp] theorem State.setAf_joypad0 (s : State) (v : Word) : (s.setAf v).joypad0 = s.joypad0 := rfl
@[simp] theorem State.setAf_joypad1 (s : State) (v : Word) : (s.setAf v).joypad1 = s.joypad1 := rfl
@[simp] theorem State.setAf_events (s : State) (v : Word) : (s.setAf v).events = s.events := rfl
@[simp] theorem State.setAf_draws (s : State) (v : Word) : (s.setAf v).draws = s.draws := rfl

@[simp] theorem State.setR8_cpu_a (s : State) (r : Reg8) (v : Byte) :
    (s.setR8 r v).cpu.a = if r = .a then v else s.cpu.a := by cases r <;> rfl
@[simp] theorem State.setR8_cpu_f (s : State) (r : Reg8) (v : Byte) : (s.setR8 r v).cpu.f = s.cpu.f := by cases r <;> rfl
@[simp] theorem State.setR8_cpu_b (s : State) (r : Reg8) (v : Byte) :
    (s.setR8 r v).cpu.b = if r = .b then v else s.cpu.b := by cases r <;> rfl
@[simp] theorem State.setR8_cpu_c (s : State) (r : Reg8) (v : Byte) :
    (s.setR8 r v).cpu.c = if r = .c then v else s.cpu.c := by cases r <;> rfl
@[simp] theorem State.setR8_cpu_d (s : State) (r : Reg8) (v : Byte) :
    (s.setR8 r v).cpu.d = if r = .d then v else s.cpu.d := by cases r <;> rfl
@[simp] theorem State.setR8_cpu_e (s : State) (r : Reg8) (v : Byte) :
    (s.setR8 r v).cpu.e = if r = .e then v else s.cpu.e := by cases r <;> rfl
@[simp] theorem State.setR8_cpu_h (s : State) (r : Reg8) (v : Byte) :
    (s.setR8 r v).cpu.h = if r = .h then v else s.cpu.h := by cases r <;> rfl
@[simp] theorem State.setR8_cpu_l (s : State) (r : Reg8) (v : Byte) :
    (s.setR8 r v).cpu.l = if r = .l then v else s.cpu.l := by cases r <;> rfl
@[simp] theorem State.setR8_cpu_aShadow (s : State) (r : Reg8) (v : Byte) : (s.setR8 r v).cpu.a' = s.cpu.a' := by cases r <;> rfl
@[simp] theorem State.setR8_cpu_fShadow (s : State) (r : Reg8) (v : Byte) : (s.setR8 r v).cpu.f' = s.cpu.f' := by cases r <;> rfl
@[simp] theorem State.setR8_cpu_bcShadow (s : State) (r : Reg8) (v : Byte) : (s.setR8 r v).cpu.bc' = s.cpu.bc' := by cases r <;> rfl
@[simp] theorem State.setR8_cpu_deShadow (s : State) (r : Reg8) (v : Byte) : (s.setR8 r v).cpu.de' = s.cpu.de' := by cases r <;> rfl
@[simp] theorem State.setR8_cpu_hlShadow (s : State) (r : Reg8) (v : Byte) : (s.setR8 r v).cpu.hl' = s.cpu.hl' := by cases r <;> rfl
@[simp] theorem State.setR8_cpu_ix (s : State) (r : Reg8) (v : Byte) : (s.setR8 r v).cpu.ix = s.cpu.ix := by cases r <;> rfl
@[simp] theorem State.setR8_cpu_iy (s : State) (r : Reg8) (v : Byte) : (s.setR8 r v).cpu.iy = s.cpu.iy := by cases r <;> rfl
@[simp] theorem State.setR8_cpu_sp (s : State) (r : Reg8) (v : Byte) : (s.setR8 r v).cpu.sp = s.cpu.sp := by cases r <;> rfl
@[simp] theorem State.setR8_cpu_pc (s : State) (r : Reg8) (v : Byte) : (s.setR8 r v).cpu.pc = s.cpu.pc := by cases r <;> rfl
@[simp] theorem State.setR8_cpu_i (s : State) (r : Reg8) (v : Byte) : (s.setR8 r v).cpu.i = s.cpu.i := by cases r <;> rfl
@[simp] theorem State.setR8_cpu_r (s : State) (r : Reg8) (v : Byte) : (s.setR8 r v).cpu.r = s.cpu.r := by cases r <;> rfl
@[simp] theorem State.setR8_cpu_iff1 (s : State) (r : Reg8) (v : Byte) : (s.setR8 r v).cpu.iff1 = s.cpu.iff1 := by cases r <;> rfl
@[simp] theorem State.setR8_cpu_iff2 (s : State) (r : Reg8) (v : Byte) : (s.setR8 r v).cpu.iff2 = s.cpu.iff2 := by cases r <;> rfl
@[simp] theorem State.setR8_cpu_im (s : State) (r : Reg8) (v : Byte) : (s.setR8 r v).cpu.im = s.cpu.im := by cases r <;> rfl
@[simp] theorem State.setR8_cpu_halted (s : State) (r : Reg8) (v : Byte) : (s.setR8 r v).cpu.halted = s.cpu.halted := by cases r <;> rfl
@[simp] theorem State.setR8_cpu_intInhibit (s : State) (r : Reg8) (v : Byte) : (s.setR8 r v).cpu.intInhibit = s.cpu.intInhibit := by cases r <;> rfl
@[simp] theorem State.setR8_cpu_nmiPending (s : State) (r : Reg8) (v : Byte) : (s.setR8 r v).cpu.nmiPending = s.cpu.nmiPending := by cases r <;> rfl
@[simp] theorem State.setR8_cpu_cycles (s : State) (r : Reg8) (v : Byte) : (s.setR8 r v).cpu.cycles = s.cpu.cycles := by cases r <;> rfl
@[simp] theorem State.setR8_cfg (s : State) (r : Reg8) (v : Byte) : (s.setR8 r v).cfg = s.cfg := by cases r <;> rfl
@[simp] theorem State.setR8_mapper (s : State) (r : Reg8) (v : Byte) : (s.setR8 r v).mapper = s.mapper := by cases r <;> rfl
@[simp] theorem State.setR8_vdp (s : State) (r : Reg8) (v : Byte) : (s.setR8 r v).vdp = s.vdp := by cases r <;> rfl
@[simp] theorem State.setR8_joypad0 (s : State) (r : Reg8) (v : Byte) : (s.setR8 r v).joypad0 = s.joypad0 := by cases r <;> rfl
@[simp] theorem State.setR8_joypad1 (s : State) (r : Reg8) (v : Byte) : (s.setR8 r v).joypad1 = s.joypad1 := by cases r <;> rfl
@[simp] theorem State.setR8_events (s : State) (r : Reg8) (v : Byte) : (s.setR8 r v).events = s.events := by cases r <;> rfl
@[simp] theorem State.setR8_draws (s : State) (r : Reg8) (v : Byte) : (s.setR8 r v).draws = s.draws := by cases r <;> rfl

@[simp] theorem State.emit_cpu (s : State) (ev : List Event) : (s.emit ev).cpu = s.cpu := rfl
@[simp] theorem State.emit_cfg (s : State) (ev : List Event) : (s.emit ev).cfg = s.cfg := rfl
@[simp] theorem State.emit_mapper (s : State) (ev : List Event) : (s.emit ev).mapper = s.mapper := rfl
@[simp] theorem State.emit_vdp (s : State) (ev : List Event) : (s.emit ev).vdp = s.vdp := rfl
@[simp] theorem State.emit_joypad0 (s : State) (ev : List Event) : (s.emit ev).joypad0 = s.joypad0 := rfl
@[simp] theorem State.emit_joypad1 (s : State) (ev : List Event) : (s.emit ev).joypad1 = s.joypad1 := rfl
@[simp] theorem State.emit_events (s : State) (ev : List Event) : (s.emit ev).events = ev.reverse ++ s.events := rfl
@[simp] theorem State.emit_draws (s : State) (ev : List Event) : (s.emit ev).draws = s.draws := rfl

@[simp] theorem State.memWrite_cpu (s : State) (a : Word) (v : Byte) :
    (s.memWrite a v).cpu = s.cpu := rfl
@[simp] theorem State.memWrite_cfg (s : State) (a : Word) (v : Byte) :
    (s.memWrite a v).cfg = s.cfg := rfl
@[simp] theorem State.memWrite_mapper (s : State) (a : Word) (v : Byte) :
    (s.memWrite a v).mapper = (s.mapper.write s.cfg.segaCtrlWriteThrough a v).1 := rfl
@[simp] theorem State.memWrite_vdp (s : State) (a : Word) (v : Byte) :
    (s.memWrite a v).vdp = s.vdp := rfl
@[simp] theorem State.memWrite_joypad0 (s : State) (a : Word) (v : Byte) :
    (s.memWrite a v).joypad0 = s.joypad0 := rfl
@[simp] theorem State.memWrite_joypad1 (s : State) (a : Word) (v : Byte) :
    (s.memWrite a v).joypad1 = s.joypad1 := rfl
@[simp] theorem State.memWrite_events (s : State) (a : Word) (v : Byte) :
    (s.memWrite a v).events = (s.mapper.write s.cfg.segaCtrlWriteThrough a v).2.reverse ++ s.events := rfl
@[simp] theorem State.memWrite_draws (s : State) (a : Word) (v : Byte) :
    (s.memWrite a v).draws = s.draws := rfl

/-- A register read after a register written (30_encoding R145). -/
@[simp] theorem State.getR8_setR8 (s : State) (r q : Reg8) (v : Byte) :
    (s.setR8 r v).getR8 q = if r = q then v else s.getR8 q := by cases r <;> cases q <;> rfl

/-- The bits of a word put together from two bytes. -/
theorem wordOf_getLsbD (h l : Byte) (i : Nat) :
    (wordOf h l).getLsbD i = if i < 8 then l.getLsbD i else h.getLsbD (i - 8) := by
  unfold wordOf
  exact (BitVec.getLsbD_append (x := h) (y := l)).trans (by cases decide (i < 8) <;> simp)

/-- A word put together from two bytes as a number. -/
theorem wordOf_toNat (h l : Byte) : (wordOf h l).toNat = 256 * h.toNat + l.toNat := by
  unfold wordOf
  refine (BitVec.toNat_append h l).trans ?_
  rw [Nat.shiftLeft_eq, Nat.mul_comm, ← Nat.two_pow_add_eq_or_of_lt l.isLt]

theorem hiByte_toNat (v : Word) : (hiByte v).toNat = v.toNat / 256 := by
  have := v.isLt
  simp [hiByte, Nat.shiftRight_eq_div_pow]
  omega

theorem loByte_toNat (v : Word) : (loByte v).toNat = v.toNat % 256 := by
  simp [loByte]

/-- The two halves of a word, put together again. -/
@[simp] theorem wordOf_hi_lo (v : Word) : wordOf (hiByte v) (loByte v) = v := by
  apply BitVec.eq_of_toNat_eq
  rw [wordOf_toNat, hiByte_toNat, loByte_toNat]
  omega

@[simp] theorem hiByte_wordOf (h l : Byte) : hiByte (wordOf h l) = h := by
  apply BitVec.eq_of_toNat_eq
  rw [hiByte_toNat, wordOf_toNat]
  have := l.isLt
  omega

@[simp] theorem loByte_wordOf (h l : Byte) : loByte (wordOf h l) = l := by
  apply BitVec.eq_of_toNat_eq
  rw [loByte_toNat, wordOf_toNat]
  have := l.isLt
  omega

/-- F stored as a byte and loaded again is F: all eight bits survive (10_state R26, R28). -/
@[simp] theorem Flags.ofByte_toByte (f : Flags) : Flags.ofByte f.toByte = f := by
  obtain ⟨s, z, y, h, x, pv, n, c⟩ := f
  revert s z y h x pv n c
  decide

@[simp] theorem Flags.toByte_ofByte (b : Byte) : (Flags.ofByte b).toByte = b := by
  revert b
  decide

end Sys2Proof.Machine
end

