-- ==== Sys2Proof/Laws/Ops.lean ====
section
/-! SUPPORT. One lemma per shared operation that says what it does: stores, the stack, the ports, the repeat mechanism, taking an interrupt
and returning from one. -/

namespace Sys2Proof.Machine

@[simp] theorem bc_setBc (s : State) (v : Word) : (s.setBc v).bc = v := wordOf_hi_lo v
@[simp] theorem de_setDe (s : State) (v : Word) : (s.setDe v).de = v := wordOf_hi_lo v
@[simp] theorem hl_setHl (s : State) (v : Word) : (s.setHl v).hl = v := wordOf_hi_lo v
@[simp] theorem bc_writeF (s : State) (f : Flags) : (s.writeF f).bc = s.bc := rfl
@[simp] theorem de_writeF (s : State) (f : Flags) : (s.writeF f).de = s.de := rfl
@[simp] theorem hl_writeF (s : State) (f : Flags) : (s.writeF f).hl = s.hl := rfl
@[simp] theorem bc_setDe (s : State) (v : Word) : (s.setDe v).bc = s.bc := rfl
@[simp] theorem bc_setHl (s : State) (v : Word) : (s.setHl v).bc = s.bc := rfl
@[simp] theorem de_setBc (s : State) (v : Word) : (s.setBc v).de = s.de := rfl
@[simp] theorem de_setHl (s : State) (v : Word) : (s.setHl v).de = s.de := rfl
@[simp] theorem hl_setBc (s : State) (v : Word) : (s.setBc v).hl = s.hl := rfl
@[simp] theorem hl_setDe (s : State) (v : Word) : (s.setDe v).hl = s.hl := rfl
@[simp] theorem bc_addCycles (s : State) (n : Nat) : (s.addCycles n).bc = s.bc := rfl
@[simp] theorem de_addCycles (s : State) (n : Nat) : (s.addCycles n).de = s.de := rfl
@[simp] theorem hl_addCycles (s : State) (n : Nat) : (s.addCycles n).hl = s.hl := rfl

/-- A read is the mapper's. -/
theorem State.memRead_eq (s : State) (a : Word) : s.memRead a = s.mapper.read a := rfl

/-- A word store is two byte stores, low byte first (20_memory R86). -/
theorem State.memWrite16_mapper (s : State) (a v : Word) :
    (s.memWrite16 a v).mapper = storeAll s.cfg.segaCtrlWriteThrough s.mapper (wordStores a v) := rfl

/-- A push stores the high byte, then the low byte, and lowers SP by 2 (41_load16_stack R253). -/
theorem State.push16_mapper (s : State) (v : Word) :
    (s.push16 v).mapper = storeAll s.cfg.segaCtrlWriteThrough s.mapper (pushStores s v) := by
  simp [State.push16, storeAll, pushStores, sub_one_sub_one s.cpu.sp]

theorem State.push16_sp (s : State) (v : Word) : (s.push16 v).cpu.sp = s.cpu.sp - 2 := by
  simp [State.push16, sub_one_sub_one s.cpu.sp]

theorem State.push16_frame (s : State) (v : Word) : changesOnly s (s.push16 v) [.sp, .mapper, .events] := by
  intro p hp
  cases p <;> simp_all [Part.same, State.push16]

/-- A call pushes PC and jumps (48_jump_call_return R492). -/
theorem State.callTo_facts (s : State) (target : Word) :
    (s.callTo target).cpu.pc = target ∧ (s.callTo target).cpu.sp = s.cpu.sp - 2 ∧
      (s.callTo target).mapper = storeAll s.cfg.segaCtrlWriteThrough s.mapper (pushStores s s.cpu.pc) :=
  ⟨rfl, s.push16_sp s.cpu.pc, s.push16_mapper s.cpu.pc⟩

/-- A return pops PC (48_jump_call_return R494). -/
theorem State.popPc_facts (s : State) :
    s.popPc.cpu.pc = wordOf (s.memRead (s.cpu.sp + 1)) (s.memRead s.cpu.sp) ∧ s.popPc.cpu.sp = s.cpu.sp + 2 ∧
      s.popPc.cpu.iff1 = s.cpu.iff1 ∧ s.popPc.cpu.iff2 = s.cpu.iff2 := ⟨rfl, rfl, rfl, rfl⟩

/-- `RETN` restores IFF1 from IFF2 (48_jump_call_return R499). -/
theorem State.returnFromNmi_facts (s : State) :
    s.returnFromNmi.cpu.iff1 = s.cpu.iff2 ∧ s.returnFromNmi = { s.popPc with cpu.iff1 := s.cpu.iff2 } := ⟨rfl, rfl⟩

/-- `RETI` by its policy (48_jump_call_return R498). -/
theorem State.returnFromInt_facts (s : State) :
    (s.cfg.retiIffPolicy = .unchanged → s.returnFromInt = s.popPc) ∧
      (s.cfg.retiIffPolicy = .copyIff2 → s.returnFromInt = { s.popPc with cpu.iff1 := s.cpu.iff2 }) ∧
      (s.cfg.retiIffPolicy = .set → s.returnFromInt = { s.popPc with cpu.iff1 := true, cpu.iff2 := true }) := by
  unfold State.returnFromInt
  refine ⟨?_, ?_, ?_⟩ <;> intro h <;> rw [h] <;> rfl

/-- The stores of `EX (SP),..` (42_exchange_block R284). -/
theorem State.replaceTop_mapper (s : State) (v : Word) :
    (s.replaceTop v).mapper = storeAll s.cfg.segaCtrlWriteThrough s.mapper (topStores s v) := rfl

/-- The repeat mechanism as a record (42_exchange_block R287; 49_io R527). -/
theorem repeatWhile_eq (again : Bool) (s : State) :
    repeatWhile again s = .next { s with
      cpu.pc := if again then s.cpu.pc - 2 else s.cpu.pc
      cpu.cycles := s.cpu.cycles + if again then 21 else 16 } := by
  cases again <;> rfl

@[simp] theorem ioRead_cpu (s : State) (p : Word) : (s.ioRead p).2.cpu = s.cpu := by unfold State.ioRead; split <;> rfl
@[simp] theorem ioRead_cfg (s : State) (p : Word) : (s.ioRead p).2.cfg = s.cfg := by unfold State.ioRead; split <;> rfl
@[simp] theorem ioRead_mapper (s : State) (p : Word) : (s.ioRead p).2.mapper = s.mapper := by unfold State.ioRead; split <;> rfl
@[simp] theorem ioRead_events (s : State) (p : Word) : (s.ioRead p).2.events = s.events := by unfold State.ioRead; split <;> rfl
@[simp] theorem ioRead_joypad0 (s : State) (p : Word) : (s.ioRead p).2.joypad0 = s.joypad0 := by unfold State.ioRead; split <;> rfl
@[simp] theorem ioRead_joypad1 (s : State) (p : Word) : (s.ioRead p).2.joypad1 = s.joypad1 := by unfold State.ioRead; split <;> rfl
@[simp] theorem ioRead_vdp_v (s : State) (p : Word) : (s.ioRead p).2.vdp.v = s.vdp.v := by unfold State.ioRead; split <;> rfl
@[simp] theorem ioRead_vdp_h (s : State) (p : Word) : (s.ioRead p).2.vdp.h = s.vdp.h := by unfold State.ioRead; split <;> rfl
@[simp] theorem ioRead_vdp_vram (s : State) (p : Word) : (s.ioRead p).2.vdp.vram = s.vdp.vram := by
  unfold State.ioRead; split <;> rfl
@[simp] theorem ioWrite_cpu (s : State) (p : Word) (v : Byte) : (s.ioWrite p v).cpu = s.cpu := by unfold State.ioWrite; split <;> rfl
@[simp] theorem ioWrite_cfg (s : State) (p : Word) (v : Byte) : (s.ioWrite p v).cfg = s.cfg := by unfold State.ioWrite; split <;> rfl
@[simp] theorem ioWrite_mapper (s : State) (p : Word) (v : Byte) : (s.ioWrite p v).mapper = s.mapper := by
  unfold State.ioWrite; split <;> rfl
@[simp] theorem ioWrite_draws (s : State) (p : Word) (v : Byte) : (s.ioWrite p v).draws = s.draws := by
  unfold State.ioWrite; split <;> rfl
@[simp] theorem ioWrite_joypad0 (s : State) (p : Word) (v : Byte) : (s.ioWrite p v).joypad0 = s.joypad0 := by
  unfold State.ioWrite; split <;> rfl
@[simp] theorem ioWrite_joypad1 (s : State) (p : Word) (v : Byte) : (s.ioWrite p v).joypad1 = s.joypad1 := by
  unfold State.ioWrite; split <;> rfl

/-- `R[6:0]` up by `n` modulo 128, `R[7]` kept, as arithmetic (10_state R30). -/
theorem advanceR_toNat (r : Byte) (n : Nat) : (advanceR r n).toNat = r.toNat / 128 * 128 + (r.toNat + n) % 128 := by
  unfold advanceR
  refine (BitVec.toNat_append (r.extractLsb' 7 1) (r.extractLsb' 0 7 + BitVec.ofNat 7 n)).trans ?_
  rw [Nat.shiftLeft_eq, Nat.mul_comm, ← Nat.two_pow_add_eq_or_of_lt (r.extractLsb' 0 7 + BitVec.ofNat 7 n).isLt]
  have := r.isLt
  simp [BitVec.toNat_add, Nat.shiftRight_eq_div_pow]
  omega

/-- Taking an interrupt does what 60_exceptions R616 says. -/
theorem State.takeInterrupt_enters (s : State) (target : Word) (cost : Nat) :
    EntersInterrupt s (s.takeInterrupt target cost) target cost where
  pc := by simp [State.takeInterrupt, State.callTo]
  sp := by simp [State.takeInterrupt, State.callTo, State.push16, sub_one_sub_one s.cpu.sp]
  iff1 := by simp [State.takeInterrupt, State.callTo, State.push16]
  halted := by simp [State.takeInterrupt, State.callTo, State.push16]
  r := by
    rw [← advanceR_toNat]
    simp [State.takeInterrupt, State.callTo, State.push16]
  cycles := by simp [State.takeInterrupt, State.callTo, State.push16]
  stack := by simp [State.takeInterrupt, State.callTo, State.push16, storeAll, sub_one_sub_one s.cpu.sp]
  frame := by
    intro p hp
    cases p <;> simp_all [Part.same, State.takeInterrupt, State.callTo, State.push16]

end Sys2Proof.Machine
end

