-- ==== Sys2Proof/Laws/PerInstr.lean ====
section
/-! SUPPORT. Statements made instruction by instruction: the decoder's length of an instruction is the length of its encoding (30_encoding
R142). -/

/-- The length the decoder gives the first two bytes of an encoding is the length of the encoding, for every well-formed instruction
(30_encoding R142). A prefix row is no instruction of its own and is excepted. -/
def Sys2Proof.Laws.EncodeLength.Statement (i : Sys2Proof.Instr) : Prop :=
  i.wf = true → Sys2Proof.Machine.isPrefixRow i = false →
    Sys2Proof.windowLength ((Sys2Proof.encode i).getD 0 0) ((Sys2Proof.encode i).getD 1 0) = (Sys2Proof.encode i).length

/-- The base table: an opcode that is no prefix byte and its operand bytes. -/
theorem Sys2Proof.Laws.encodeLength_base {i : Sys2Proof.Instr} {op : Sys2Proof.Byte} {rest : List Sys2Proof.Byte}
    (he : Sys2Proof.encode i = op :: rest) (hp : op ∉ [0xCB, 0xED, 0xDD, 0xFD]) (hl : Sys2Proof.baseOperands op = rest.length) :
    Sys2Proof.Laws.EncodeLength.Statement i := by
  intro _ _
  simp at hp
  simp [he, Sys2Proof.windowLength, hp, hl, Nat.add_comm]

/-- A prefixed encoding of `n` bytes. -/
theorem Sys2Proof.Laws.encodeLength_prefixed {i : Sys2Proof.Instr} {b0 b1 : Sys2Proof.Byte} {rest : List Sys2Proof.Byte} (n : Nat)
    (he : Sys2Proof.encode i = b0 :: b1 :: rest) (hw : Sys2Proof.windowLength b0 b1 = n) (hl : rest.length + 2 = n) :
    Sys2Proof.Laws.EncodeLength.Statement i := by
  intro _ _
  rw [he]
  exact hw.trans hl.symm

theorem Sys2Proof.Laws.EncodeLength.djnz (e : Sys2Proof.Byte) : Sys2Proof.Laws.EncodeLength.Statement (.djnz e) :=
  Sys2Proof.Laws.encodeLength_base rfl (by decide) rfl
theorem Sys2Proof.Laws.EncodeLength.jr (e : Sys2Proof.Byte) : Sys2Proof.Laws.EncodeLength.Statement (.jr e) :=
  Sys2Proof.Laws.encodeLength_base rfl (by decide) rfl
theorem Sys2Proof.Laws.EncodeLength.jrNz (e : Sys2Proof.Byte) : Sys2Proof.Laws.EncodeLength.Statement (.jrNz e) :=
  Sys2Proof.Laws.encodeLength_base rfl (by decide) rfl
theorem Sys2Proof.Laws.EncodeLength.jrZ (e : Sys2Proof.Byte) : Sys2Proof.Laws.EncodeLength.Statement (.jrZ e) :=
  Sys2Proof.Laws.encodeLength_base rfl (by decide) rfl
theorem Sys2Proof.Laws.EncodeLength.jrNc (e : Sys2Proof.Byte) : Sys2Proof.Laws.EncodeLength.Statement (.jrNc e) :=
  Sys2Proof.Laws.encodeLength_base rfl (by decide) rfl
theorem Sys2Proof.Laws.EncodeLength.jrC (e : Sys2Proof.Byte) : Sys2Proof.Laws.EncodeLength.Statement (.jrC e) :=
  Sys2Proof.Laws.encodeLength_base rfl (by decide) rfl
theorem Sys2Proof.Laws.EncodeLength.ldDdNn (dd : Sys2Proof.Pair) (nn : Sys2Proof.Word) : Sys2Proof.Laws.EncodeLength.Statement (.ldDdNn dd nn) :=
  by cases dd <;> exact Sys2Proof.Laws.encodeLength_base rfl (by decide) rfl
theorem Sys2Proof.Laws.EncodeLength.addHlSs (ss : Sys2Proof.Pair) : Sys2Proof.Laws.EncodeLength.Statement (.addHlSs ss) :=
  by cases ss <;> exact Sys2Proof.Laws.encodeLength_base rfl (by decide) rfl
theorem Sys2Proof.Laws.EncodeLength.ldMemNnHl (nn : Sys2Proof.Word) : Sys2Proof.Laws.EncodeLength.Statement (.ldMemNnHl nn) :=
  Sys2Proof.Laws.encodeLength_base rfl (by decide) rfl
theorem Sys2Proof.Laws.EncodeLength.ldHlMemNn (nn : Sys2Proof.Word) : Sys2Proof.Laws.EncodeLength.Statement (.ldHlMemNn nn) :=
  Sys2Proof.Laws.encodeLength_base rfl (by decide) rfl
theorem Sys2Proof.Laws.EncodeLength.ldMemNnA (nn : Sys2Proof.Word) : Sys2Proof.Laws.EncodeLength.Statement (.ldMemNnA nn) :=
  Sys2Proof.Laws.encodeLength_base rfl (by decide) rfl
theorem Sys2Proof.Laws.EncodeLength.ldAMemNn (nn : Sys2Proof.Word) : Sys2Proof.Laws.EncodeLength.Statement (.ldAMemNn nn) :=
  Sys2Proof.Laws.encodeLength_base rfl (by decide) rfl
theorem Sys2Proof.Laws.EncodeLength.incSs (ss : Sys2Proof.Pair) : Sys2Proof.Laws.EncodeLength.Statement (.incSs ss) :=
  by cases ss <;> exact Sys2Proof.Laws.encodeLength_base rfl (by decide) rfl
theorem Sys2Proof.Laws.EncodeLength.decSs (ss : Sys2Proof.Pair) : Sys2Proof.Laws.EncodeLength.Statement (.decSs ss) :=
  by cases ss <;> exact Sys2Proof.Laws.encodeLength_base rfl (by decide) rfl
theorem Sys2Proof.Laws.EncodeLength.incR (r : Sys2Proof.Reg8) : Sys2Proof.Laws.EncodeLength.Statement (.incR r) :=
  by cases r <;> exact Sys2Proof.Laws.encodeLength_base rfl (by decide) rfl
theorem Sys2Proof.Laws.EncodeLength.decR (r : Sys2Proof.Reg8) : Sys2Proof.Laws.EncodeLength.Statement (.decR r) :=
  by cases r <;> exact Sys2Proof.Laws.encodeLength_base rfl (by decide) rfl
theorem Sys2Proof.Laws.EncodeLength.ldRN (r : Sys2Proof.Reg8) (n : Sys2Proof.Byte) : Sys2Proof.Laws.EncodeLength.Statement (.ldRN r n) :=
  by cases r <;> exact Sys2Proof.Laws.encodeLength_base rfl (by decide) rfl
theorem Sys2Proof.Laws.EncodeLength.ldMemHlN (n : Sys2Proof.Byte) : Sys2Proof.Laws.EncodeLength.Statement (.ldMemHlN n) :=
  Sys2Proof.Laws.encodeLength_base rfl (by decide) rfl
theorem Sys2Proof.Laws.EncodeLength.ldRR (dst : Sys2Proof.Reg8) (src : Sys2Proof.Reg8) : Sys2Proof.Laws.EncodeLength.Statement (.ldRR dst src) :=
  by cases dst <;> cases src <;> exact Sys2Proof.Laws.encodeLength_base rfl (by decide) rfl
theorem Sys2Proof.Laws.EncodeLength.ldRMemHl (r : Sys2Proof.Reg8) : Sys2Proof.Laws.EncodeLength.Statement (.ldRMemHl r) :=
  by cases r <;> exact Sys2Proof.Laws.encodeLength_base rfl (by decide) rfl
theorem Sys2Proof.Laws.EncodeLength.ldMemHlR (r : Sys2Proof.Reg8) : Sys2Proof.Laws.EncodeLength.Statement (.ldMemHlR r) :=
  by cases r <;> exact Sys2Proof.Laws.encodeLength_base rfl (by decide) rfl
theorem Sys2Proof.Laws.EncodeLength.addAR (r : Sys2Proof.Reg8) : Sys2Proof.Laws.EncodeLength.Statement (.addAR r) :=
  by cases r <;> exact Sys2Proof.Laws.encodeLength_base rfl (by decide) rfl
theorem Sys2Proof.Laws.EncodeLength.addAN (n : Sys2Proof.Byte) : Sys2Proof.Laws.EncodeLength.Statement (.addAN n) :=
  Sys2Proof.Laws.encodeLength_base rfl (by decide) rfl
theorem Sys2Proof.Laws.EncodeLength.adcAR (r : Sys2Proof.Reg8) : Sys2Proof.Laws.EncodeLength.Statement (.adcAR r) :=
  by cases r <;> exact Sys2Proof.Laws.encodeLength_base rfl (by decide) rfl
theorem Sys2Proof.Laws.EncodeLength.adcAN (n : Sys2Proof.Byte) : Sys2Proof.Laws.EncodeLength.Statement (.adcAN n) :=
  Sys2Proof.Laws.encodeLength_base rfl (by decide) rfl
theorem Sys2Proof.Laws.EncodeLength.subR (r : Sys2Proof.Reg8) : Sys2Proof.Laws.EncodeLength.Statement (.subR r) :=
  by cases r <;> exact Sys2Proof.Laws.encodeLength_base rfl (by decide) rfl
theorem Sys2Proof.Laws.EncodeLength.subN (n : Sys2Proof.Byte) : Sys2Proof.Laws.EncodeLength.Statement (.subN n) :=
  Sys2Proof.Laws.encodeLength_base rfl (by decide) rfl
theorem Sys2Proof.Laws.EncodeLength.sbcAR (r : Sys2Proof.Reg8) : Sys2Proof.Laws.EncodeLength.Statement (.sbcAR r) :=
  by cases r <;> exact Sys2Proof.Laws.encodeLength_base rfl (by decide) rfl
theorem Sys2Proof.Laws.EncodeLength.sbcAN (n : Sys2Proof.Byte) : Sys2Proof.Laws.EncodeLength.Statement (.sbcAN n) :=
  Sys2Proof.Laws.encodeLength_base rfl (by decide) rfl
theorem Sys2Proof.Laws.EncodeLength.andR (r : Sys2Proof.Reg8) : Sys2Proof.Laws.EncodeLength.Statement (.andR r) :=
  by cases r <;> exact Sys2Proof.Laws.encodeLength_base rfl (by decide) rfl
theorem Sys2Proof.Laws.EncodeLength.andN (n : Sys2Proof.Byte) : Sys2Proof.Laws.EncodeLength.Statement (.andN n) :=
  Sys2Proof.Laws.encodeLength_base rfl (by decide) rfl
theorem Sys2Proof.Laws.EncodeLength.xorR (r : Sys2Proof.Reg8) : Sys2Proof.Laws.EncodeLength.Statement (.xorR r) :=
  by cases r <;> exact Sys2Proof.Laws.encodeLength_base rfl (by decide) rfl
theorem Sys2Proof.Laws.EncodeLength.xorN (n : Sys2Proof.Byte) : Sys2Proof.Laws.EncodeLength.Statement (.xorN n) :=
  Sys2Proof.Laws.encodeLength_base rfl (by decide) rfl
theorem Sys2Proof.Laws.EncodeLength.orR (r : Sys2Proof.Reg8) : Sys2Proof.Laws.EncodeLength.Statement (.orR r) :=
  by cases r <;> exact Sys2Proof.Laws.encodeLength_base rfl (by decide) rfl
theorem Sys2Proof.Laws.EncodeLength.orN (n : Sys2Proof.Byte) : Sys2Proof.Laws.EncodeLength.Statement (.orN n) :=
  Sys2Proof.Laws.encodeLength_base rfl (by decide) rfl
theorem Sys2Proof.Laws.EncodeLength.cpR (r : Sys2Proof.Reg8) : Sys2Proof.Laws.EncodeLength.Statement (.cpR r) :=
  by cases r <;> exact Sys2Proof.Laws.encodeLength_base rfl (by decide) rfl
theorem Sys2Proof.Laws.EncodeLength.cpN (n : Sys2Proof.Byte) : Sys2Proof.Laws.EncodeLength.Statement (.cpN n) :=
  Sys2Proof.Laws.encodeLength_base rfl (by decide) rfl
theorem Sys2Proof.Laws.EncodeLength.retCc (cc : Sys2Proof.Cond) : Sys2Proof.Laws.EncodeLength.Statement (.retCc cc) :=
  by cases cc <;> exact Sys2Proof.Laws.encodeLength_base rfl (by decide) rfl
theorem Sys2Proof.Laws.EncodeLength.popQq (qq : Sys2Proof.PairQ) : Sys2Proof.Laws.EncodeLength.Statement (.popQq qq) :=
  by cases qq <;> exact Sys2Proof.Laws.encodeLength_base rfl (by decide) rfl
theorem Sys2Proof.Laws.EncodeLength.jpCcNn (cc : Sys2Proof.Cond) (nn : Sys2Proof.Word) : Sys2Proof.Laws.EncodeLength.Statement (.jpCcNn cc nn) :=
  by cases cc <;> exact Sys2Proof.Laws.encodeLength_base rfl (by decide) rfl
theorem Sys2Proof.Laws.EncodeLength.jpNn (nn : Sys2Proof.Word) : Sys2Proof.Laws.EncodeLength.Statement (.jpNn nn) :=
  Sys2Proof.Laws.encodeLength_base rfl (by decide) rfl
theorem Sys2Proof.Laws.EncodeLength.outNA (n : Sys2Proof.Byte) : Sys2Proof.Laws.EncodeLength.Statement (.outNA n) :=
  Sys2Proof.Laws.encodeLength_base rfl (by decide) rfl
theorem Sys2Proof.Laws.EncodeLength.inAN (n : Sys2Proof.Byte) : Sys2Proof.Laws.EncodeLength.Statement (.inAN n) :=
  Sys2Proof.Laws.encodeLength_base rfl (by decide) rfl
theorem Sys2Proof.Laws.EncodeLength.callCcNn (cc : Sys2Proof.Cond) (nn : Sys2Proof.Word) : Sys2Proof.Laws.EncodeLength.Statement (.callCcNn cc nn) :=
  by cases cc <;> exact Sys2Proof.Laws.encodeLength_base rfl (by decide) rfl
theorem Sys2Proof.Laws.EncodeLength.pushQq (qq : Sys2Proof.PairQ) : Sys2Proof.Laws.EncodeLength.Statement (.pushQq qq) :=
  by cases qq <;> exact Sys2Proof.Laws.encodeLength_base rfl (by decide) rfl
theorem Sys2Proof.Laws.EncodeLength.callNn (nn : Sys2Proof.Word) : Sys2Proof.Laws.EncodeLength.Statement (.callNn nn) :=
  Sys2Proof.Laws.encodeLength_base rfl (by decide) rfl
theorem Sys2Proof.Laws.EncodeLength.rst (y : BitVec 3) : Sys2Proof.Laws.EncodeLength.Statement (.rst y) :=
  by revert y; unfold Sys2Proof.Laws.EncodeLength.Statement; decide
theorem Sys2Proof.Laws.EncodeLength.rlcR (r : Sys2Proof.Reg8) : Sys2Proof.Laws.EncodeLength.Statement (.rlcR r) :=
  by cases r <;> exact fun _ _ => rfl
theorem Sys2Proof.Laws.EncodeLength.rrcR (r : Sys2Proof.Reg8) : Sys2Proof.Laws.EncodeLength.Statement (.rrcR r) :=
  by cases r <;> exact fun _ _ => rfl
theorem Sys2Proof.Laws.EncodeLength.rlR (r : Sys2Proof.Reg8) : Sys2Proof.Laws.EncodeLength.Statement (.rlR r) :=
  by cases r <;> exact fun _ _ => rfl
theorem Sys2Proof.Laws.EncodeLength.rrR (r : Sys2Proof.Reg8) : Sys2Proof.Laws.EncodeLength.Statement (.rrR r) :=
  by cases r <;> exact fun _ _ => rfl
theorem Sys2Proof.Laws.EncodeLength.slaR (r : Sys2Proof.Reg8) : Sys2Proof.Laws.EncodeLength.Statement (.slaR r) :=
  by cases r <;> exact fun _ _ => rfl
theorem Sys2Proof.Laws.EncodeLength.sraR (r : Sys2Proof.Reg8) : Sys2Proof.Laws.EncodeLength.Statement (.sraR r) :=
  by cases r <;> exact fun _ _ => rfl
theorem Sys2Proof.Laws.EncodeLength.sllR (r : Sys2Proof.Reg8) : Sys2Proof.Laws.EncodeLength.Statement (.sllR r) :=
  by cases r <;> exact fun _ _ => rfl
theorem Sys2Proof.Laws.EncodeLength.srlR (r : Sys2Proof.Reg8) : Sys2Proof.Laws.EncodeLength.Statement (.srlR r) :=
  by cases r <;> exact fun _ _ => rfl
theorem Sys2Proof.Laws.EncodeLength.bitR (b : BitVec 3) (r : Sys2Proof.Reg8) : Sys2Proof.Laws.EncodeLength.Statement (.bitR b r) :=
  by cases r <;> exact fun _ _ => rfl
theorem Sys2Proof.Laws.EncodeLength.bitMemHl (b : BitVec 3) : Sys2Proof.Laws.EncodeLength.Statement (.bitMemHl b) := fun _ _ => rfl
theorem Sys2Proof.Laws.EncodeLength.resR (b : BitVec 3) (r : Sys2Proof.Reg8) : Sys2Proof.Laws.EncodeLength.Statement (.resR b r) :=
  by cases r <;> exact fun _ _ => rfl
theorem Sys2Proof.Laws.EncodeLength.resMemHl (b : BitVec 3) : Sys2Proof.Laws.EncodeLength.Statement (.resMemHl b) := fun _ _ => rfl
theorem Sys2Proof.Laws.EncodeLength.setR (b : BitVec 3) (r : Sys2Proof.Reg8) : Sys2Proof.Laws.EncodeLength.Statement (.setR b r) :=
  by cases r <;> exact fun _ _ => rfl
theorem Sys2Proof.Laws.EncodeLength.setMemHl (b : BitVec 3) : Sys2Proof.Laws.EncodeLength.Statement (.setMemHl b) := fun _ _ => rfl
theorem Sys2Proof.Laws.EncodeLength.inRC (r : Sys2Proof.Reg8) : Sys2Proof.Laws.EncodeLength.Statement (.inRC r) :=
  by cases r <;> exact fun _ _ => rfl
theorem Sys2Proof.Laws.EncodeLength.outCR (r : Sys2Proof.Reg8) : Sys2Proof.Laws.EncodeLength.Statement (.outCR r) :=
  by cases r <;> exact fun _ _ => rfl
theorem Sys2Proof.Laws.EncodeLength.sbcHlSs (ss : Sys2Proof.Pair) : Sys2Proof.Laws.EncodeLength.Statement (.sbcHlSs ss) :=
  by cases ss <;> exact fun _ _ => rfl
theorem Sys2Proof.Laws.EncodeLength.adcHlSs (ss : Sys2Proof.Pair) : Sys2Proof.Laws.EncodeLength.Statement (.adcHlSs ss) :=
  by cases ss <;> exact fun _ _ => rfl
theorem Sys2Proof.Laws.EncodeLength.ldMemNnDd (nn : Sys2Proof.Word) (dd : Sys2Proof.Pair) : Sys2Proof.Laws.EncodeLength.Statement (.ldMemNnDd nn dd) :=
  by cases dd <;> exact Sys2Proof.Laws.encodeLength_prefixed 4 rfl (by decide) rfl
theorem Sys2Proof.Laws.EncodeLength.ldDdMemNn (dd : Sys2Proof.Pair) (nn : Sys2Proof.Word) : Sys2Proof.Laws.EncodeLength.Statement (.ldDdMemNn dd nn) :=
  by cases dd <;> exact Sys2Proof.Laws.encodeLength_prefixed 4 rfl (by decide) rfl
theorem Sys2Proof.Laws.EncodeLength.negMirror (y : BitVec 3) : Sys2Proof.Laws.EncodeLength.Statement (.negMirror y) :=
  by revert y; unfold Sys2Proof.Laws.EncodeLength.Statement; decide
theorem Sys2Proof.Laws.EncodeLength.retnMirror (y : BitVec 3) : Sys2Proof.Laws.EncodeLength.Statement (.retnMirror y) :=
  by revert y; unfold Sys2Proof.Laws.EncodeLength.Statement; decide
theorem Sys2Proof.Laws.EncodeLength.im0Mirror (y : BitVec 3) : Sys2Proof.Laws.EncodeLength.Statement (.im0Mirror y) :=
  by revert y; unfold Sys2Proof.Laws.EncodeLength.Statement; decide
theorem Sys2Proof.Laws.EncodeLength.nopEdX0 (y : BitVec 3) (z : BitVec 3) : Sys2Proof.Laws.EncodeLength.Statement (.nopEdX0 y z) :=
  by revert y z; unfold Sys2Proof.Laws.EncodeLength.Statement; decide
theorem Sys2Proof.Laws.EncodeLength.nopEd77 (q : BitVec 1) : Sys2Proof.Laws.EncodeLength.Statement (.nopEd77 q) :=
  by revert q; unfold Sys2Proof.Laws.EncodeLength.Statement; decide
theorem Sys2Proof.Laws.EncodeLength.nopEd80 (p : BitVec 1) (q : BitVec 1) (z : BitVec 3) : Sys2Proof.Laws.EncodeLength.Statement (.nopEd80 p q z) :=
  by revert p q z; unfold Sys2Proof.Laws.EncodeLength.Statement; decide
theorem Sys2Proof.Laws.EncodeLength.nopEdA4 (p : BitVec 1) (q : BitVec 1) (z : BitVec 2) : Sys2Proof.Laws.EncodeLength.Statement (.nopEdA4 p q z) :=
  by revert p q z; unfold Sys2Proof.Laws.EncodeLength.Statement; decide
theorem Sys2Proof.Laws.EncodeLength.nopEdX3 (y : BitVec 3) (z : BitVec 3) : Sys2Proof.Laws.EncodeLength.Statement (.nopEdX3 y z) :=
  by revert y z; unfold Sys2Proof.Laws.EncodeLength.Statement; decide
theorem Sys2Proof.Laws.EncodeLength.addIxPp (p : Sys2Proof.PairI) : Sys2Proof.Laws.EncodeLength.Statement (.addIxPp p) :=
  by cases p <;> exact fun _ _ => rfl
theorem Sys2Proof.Laws.EncodeLength.ldIxNn (nn : Sys2Proof.Word) : Sys2Proof.Laws.EncodeLength.Statement (.ldIxNn nn) :=
  Sys2Proof.Laws.encodeLength_prefixed 4 rfl (by decide) rfl
theorem Sys2Proof.Laws.EncodeLength.ldMemNnIx (nn : Sys2Proof.Word) : Sys2Proof.Laws.EncodeLength.Statement (.ldMemNnIx nn) :=
  Sys2Proof.Laws.encodeLength_prefixed 4 rfl (by decide) rfl
theorem Sys2Proof.Laws.EncodeLength.ldIxMemNn (nn : Sys2Proof.Word) : Sys2Proof.Laws.EncodeLength.Statement (.ldIxMemNn nn) :=
  Sys2Proof.Laws.encodeLength_prefixed 4 rfl (by decide) rfl
theorem Sys2Proof.Laws.EncodeLength.incIxHalf (h : Sys2Proof.Half) : Sys2Proof.Laws.EncodeLength.Statement (.incIxHalf h) :=
  by cases h <;> exact fun _ _ => rfl
theorem Sys2Proof.Laws.EncodeLength.decIxHalf (h : Sys2Proof.Half) : Sys2Proof.Laws.EncodeLength.Statement (.decIxHalf h) :=
  by cases h <;> exact fun _ _ => rfl
theorem Sys2Proof.Laws.EncodeLength.ldIxHalfN (h : Sys2Proof.Half) (n : Sys2Proof.Byte) : Sys2Proof.Laws.EncodeLength.Statement (.ldIxHalfN h n) :=
  by cases h <;> exact Sys2Proof.Laws.encodeLength_prefixed 3 rfl (by decide) rfl
theorem Sys2Proof.Laws.EncodeLength.incMemIx (d : Sys2Proof.Byte) : Sys2Proof.Laws.EncodeLength.Statement (.incMemIx d) :=
  Sys2Proof.Laws.encodeLength_prefixed 3 rfl (by decide) rfl
theorem Sys2Proof.Laws.EncodeLength.decMemIx (d : Sys2Proof.Byte) : Sys2Proof.Laws.EncodeLength.Statement (.decMemIx d) :=
  Sys2Proof.Laws.encodeLength_prefixed 3 rfl (by decide) rfl
theorem Sys2Proof.Laws.EncodeLength.ldMemIxN (d : Sys2Proof.Byte) (n : Sys2Proof.Byte) : Sys2Proof.Laws.EncodeLength.Statement (.ldMemIxN d n) :=
  Sys2Proof.Laws.encodeLength_prefixed 4 rfl (by decide) rfl
theorem Sys2Proof.Laws.EncodeLength.ldRMemIx (r : Sys2Proof.Reg8) (d : Sys2Proof.Byte) : Sys2Proof.Laws.EncodeLength.Statement (.ldRMemIx r d) :=
  by cases r <;> exact Sys2Proof.Laws.encodeLength_prefixed 3 rfl (by decide) rfl
theorem Sys2Proof.Laws.EncodeLength.ldMemIxR (d : Sys2Proof.Byte) (r : Sys2Proof.Reg8) : Sys2Proof.Laws.EncodeLength.Statement (.ldMemIxR d r) :=
  by cases r <;> exact Sys2Proof.Laws.encodeLength_prefixed 3 rfl (by decide) rfl
theorem Sys2Proof.Laws.EncodeLength.ldPPIx (dst : Sys2Proof.RegP) (src : Sys2Proof.RegP) : Sys2Proof.Laws.EncodeLength.Statement (.ldPPIx dst src) :=
  by cases dst <;> cases src <;> intro h _ <;> first | rfl | cases h
theorem Sys2Proof.Laws.EncodeLength.addAIxHalf (h : Sys2Proof.Half) : Sys2Proof.Laws.EncodeLength.Statement (.addAIxHalf h) :=
  by cases h <;> exact fun _ _ => rfl
theorem Sys2Proof.Laws.EncodeLength.addAMemIx (d : Sys2Proof.Byte) : Sys2Proof.Laws.EncodeLength.Statement (.addAMemIx d) :=
  Sys2Proof.Laws.encodeLength_prefixed 3 rfl (by decide) rfl
theorem Sys2Proof.Laws.EncodeLength.adcAIxHalf (h : Sys2Proof.Half) : Sys2Proof.Laws.EncodeLength.Statement (.adcAIxHalf h) :=
  by cases h <;> exact fun _ _ => rfl
theorem Sys2Proof.Laws.EncodeLength.adcAMemIx (d : Sys2Proof.Byte) : Sys2Proof.Laws.EncodeLength.Statement (.adcAMemIx d) :=
  Sys2Proof.Laws.encodeLength_prefixed 3 rfl (by decide) rfl
theorem Sys2Proof.Laws.EncodeLength.subIxHalf (h : Sys2Proof.Half) : Sys2Proof.Laws.EncodeLength.Statement (.subIxHalf h) :=
  by cases h <;> exact fun _ _ => rfl
theorem Sys2Proof.Laws.EncodeLength.subMemIx (d : Sys2Proof.Byte) : Sys2Proof.Laws.EncodeLength.Statement (.subMemIx d) :=
  Sys2Proof.Laws.encodeLength_prefixed 3 rfl (by decide) rfl
theorem Sys2Proof.Laws.EncodeLength.sbcAIxHalf (h : Sys2Proof.Half) : Sys2Proof.Laws.EncodeLength.Statement (.sbcAIxHalf h) :=
  by cases h <;> exact fun _ _ => rfl
theorem Sys2Proof.Laws.EncodeLength.sbcAMemIx (d : Sys2Proof.Byte) : Sys2Proof.Laws.EncodeLength.Statement (.sbcAMemIx d) :=
  Sys2Proof.Laws.encodeLength_prefixed 3 rfl (by decide) rfl
theorem Sys2Proof.Laws.EncodeLength.andIxHalf (h : Sys2Proof.Half) : Sys2Proof.Laws.EncodeLength.Statement (.andIxHalf h) :=
  by cases h <;> exact fun _ _ => rfl
theorem Sys2Proof.Laws.EncodeLength.andMemIx (d : Sys2Proof.Byte) : Sys2Proof.Laws.EncodeLength.Statement (.andMemIx d) :=
  Sys2Proof.Laws.encodeLength_prefixed 3 rfl (by decide) rfl
theorem Sys2Proof.Laws.EncodeLength.xorIxHalf (h : Sys2Proof.Half) : Sys2Proof.Laws.EncodeLength.Statement (.xorIxHalf h) :=
  by cases h <;> exact fun _ _ => rfl
theorem Sys2Proof.Laws.EncodeLength.xorMemIx (d : Sys2Proof.Byte) : Sys2Proof.Laws.EncodeLength.Statement (.xorMemIx d) :=
  Sys2Proof.Laws.encodeLength_prefixed 3 rfl (by decide) rfl
theorem Sys2Proof.Laws.EncodeLength.orIxHalf (h : Sys2Proof.Half) : Sys2Proof.Laws.EncodeLength.Statement (.orIxHalf h) :=
  by cases h <;> exact fun _ _ => rfl
theorem Sys2Proof.Laws.EncodeLength.orMemIx (d : Sys2Proof.Byte) : Sys2Proof.Laws.EncodeLength.Statement (.orMemIx d) :=
  Sys2Proof.Laws.encodeLength_prefixed 3 rfl (by decide) rfl
theorem Sys2Proof.Laws.EncodeLength.cpIxHalf (h : Sys2Proof.Half) : Sys2Proof.Laws.EncodeLength.Statement (.cpIxHalf h) :=
  by cases h <;> exact fun _ _ => rfl
theorem Sys2Proof.Laws.EncodeLength.cpMemIx (d : Sys2Proof.Byte) : Sys2Proof.Laws.EncodeLength.Statement (.cpMemIx d) :=
  Sys2Proof.Laws.encodeLength_prefixed 3 rfl (by decide) rfl
theorem Sys2Proof.Laws.EncodeLength.rlcMemIx (d : Sys2Proof.Byte) : Sys2Proof.Laws.EncodeLength.Statement (.rlcMemIx d) :=
  Sys2Proof.Laws.encodeLength_prefixed 4 rfl (by decide) rfl
theorem Sys2Proof.Laws.EncodeLength.rlcMemIxR (d : Sys2Proof.Byte) (r : Sys2Proof.Reg8) : Sys2Proof.Laws.EncodeLength.Statement (.rlcMemIxR d r) :=
  Sys2Proof.Laws.encodeLength_prefixed 4 rfl (by decide) rfl
theorem Sys2Proof.Laws.EncodeLength.rrcMemIx (d : Sys2Proof.Byte) : Sys2Proof.Laws.EncodeLength.Statement (.rrcMemIx d) :=
  Sys2Proof.Laws.encodeLength_prefixed 4 rfl (by decide) rfl
theorem Sys2Proof.Laws.EncodeLength.rrcMemIxR (d : Sys2Proof.Byte) (r : Sys2Proof.Reg8) : Sys2Proof.Laws.EncodeLength.Statement (.rrcMemIxR d r) :=
  Sys2Proof.Laws.encodeLength_prefixed 4 rfl (by decide) rfl
theorem Sys2Proof.Laws.EncodeLength.rlMemIx (d : Sys2Proof.Byte) : Sys2Proof.Laws.EncodeLength.Statement (.rlMemIx d) :=
  Sys2Proof.Laws.encodeLength_prefixed 4 rfl (by decide) rfl
theorem Sys2Proof.Laws.EncodeLength.rlMemIxR (d : Sys2Proof.Byte) (r : Sys2Proof.Reg8) : Sys2Proof.Laws.EncodeLength.Statement (.rlMemIxR d r) :=
  Sys2Proof.Laws.encodeLength_prefixed 4 rfl (by decide) rfl
theorem Sys2Proof.Laws.EncodeLength.rrMemIx (d : Sys2Proof.Byte) : Sys2Proof.Laws.EncodeLength.Statement (.rrMemIx d) :=
  Sys2Proof.Laws.encodeLength_prefixed 4 rfl (by decide) rfl
theorem Sys2Proof.Laws.EncodeLength.rrMemIxR (d : Sys2Proof.Byte) (r : Sys2Proof.Reg8) : Sys2Proof.Laws.EncodeLength.Statement (.rrMemIxR d r) :=
  Sys2Proof.Laws.encodeLength_prefixed 4 rfl (by decide) rfl
theorem Sys2Proof.Laws.EncodeLength.slaMemIx (d : Sys2Proof.Byte) : Sys2Proof.Laws.EncodeLength.Statement (.slaMemIx d) :=
  Sys2Proof.Laws.encodeLength_prefixed 4 rfl (by decide) rfl
theorem Sys2Proof.Laws.EncodeLength.slaMemIxR (d : Sys2Proof.Byte) (r : Sys2Proof.Reg8) : Sys2Proof.Laws.EncodeLength.Statement (.slaMemIxR d r) :=
  Sys2Proof.Laws.encodeLength_prefixed 4 rfl (by decide) rfl
theorem Sys2Proof.Laws.EncodeLength.sraMemIx (d : Sys2Proof.Byte) : Sys2Proof.Laws.EncodeLength.Statement (.sraMemIx d) :=
  Sys2Proof.Laws.encodeLength_prefixed 4 rfl (by decide) rfl
theorem Sys2Proof.Laws.EncodeLength.sraMemIxR (d : Sys2Proof.Byte) (r : Sys2Proof.Reg8) : Sys2Proof.Laws.EncodeLength.Statement (.sraMemIxR d r) :=
  Sys2Proof.Laws.encodeLength_prefixed 4 rfl (by decide) rfl
theorem Sys2Proof.Laws.EncodeLength.sllMemIx (d : Sys2Proof.Byte) : Sys2Proof.Laws.EncodeLength.Statement (.sllMemIx d) :=
  Sys2Proof.Laws.encodeLength_prefixed 4 rfl (by decide) rfl
theorem Sys2Proof.Laws.EncodeLength.sllMemIxR (d : Sys2Proof.Byte) (r : Sys2Proof.Reg8) : Sys2Proof.Laws.EncodeLength.Statement (.sllMemIxR d r) :=
  Sys2Proof.Laws.encodeLength_prefixed 4 rfl (by decide) rfl
theorem Sys2Proof.Laws.EncodeLength.srlMemIx (d : Sys2Proof.Byte) : Sys2Proof.Laws.EncodeLength.Statement (.srlMemIx d) :=
  Sys2Proof.Laws.encodeLength_prefixed 4 rfl (by decide) rfl
theorem Sys2Proof.Laws.EncodeLength.srlMemIxR (d : Sys2Proof.Byte) (r : Sys2Proof.Reg8) : Sys2Proof.Laws.EncodeLength.Statement (.srlMemIxR d r) :=
  Sys2Proof.Laws.encodeLength_prefixed 4 rfl (by decide) rfl
theorem Sys2Proof.Laws.EncodeLength.bitMemIx (b : BitVec 3) (d : Sys2Proof.Byte) : Sys2Proof.Laws.EncodeLength.Statement (.bitMemIx b d) :=
  Sys2Proof.Laws.encodeLength_prefixed 4 rfl (by decide) rfl
theorem Sys2Proof.Laws.EncodeLength.bitMemIxZ (b : BitVec 3) (d : Sys2Proof.Byte) (r : Sys2Proof.Reg8) : Sys2Proof.Laws.EncodeLength.Statement (.bitMemIxZ b d r) :=
  Sys2Proof.Laws.encodeLength_prefixed 4 rfl (by decide) rfl
theorem Sys2Proof.Laws.EncodeLength.resMemIx (b : BitVec 3) (d : Sys2Proof.Byte) : Sys2Proof.Laws.EncodeLength.Statement (.resMemIx b d) :=
  Sys2Proof.Laws.encodeLength_prefixed 4 rfl (by decide) rfl
theorem Sys2Proof.Laws.EncodeLength.resMemIxR (b : BitVec 3) (d : Sys2Proof.Byte) (r : Sys2Proof.Reg8) : Sys2Proof.Laws.EncodeLength.Statement (.resMemIxR b d r) :=
  Sys2Proof.Laws.encodeLength_prefixed 4 rfl (by decide) rfl
theorem Sys2Proof.Laws.EncodeLength.setMemIx (b : BitVec 3) (d : Sys2Proof.Byte) : Sys2Proof.Laws.EncodeLength.Statement (.setMemIx b d) :=
  Sys2Proof.Laws.encodeLength_prefixed 4 rfl (by decide) rfl
theorem Sys2Proof.Laws.EncodeLength.setMemIxR (b : BitVec 3) (d : Sys2Proof.Byte) (r : Sys2Proof.Reg8) : Sys2Proof.Laws.EncodeLength.Statement (.setMemIxR b d r) :=
  Sys2Proof.Laws.encodeLength_prefixed 4 rfl (by decide) rfl
theorem Sys2Proof.Laws.EncodeLength.addIyRr (p : Sys2Proof.PairI) : Sys2Proof.Laws.EncodeLength.Statement (.addIyRr p) :=
  by cases p <;> exact fun _ _ => rfl
theorem Sys2Proof.Laws.EncodeLength.ldIyNn (nn : Sys2Proof.Word) : Sys2Proof.Laws.EncodeLength.Statement (.ldIyNn nn) :=
  Sys2Proof.Laws.encodeLength_prefixed 4 rfl (by decide) rfl
theorem Sys2Proof.Laws.EncodeLength.ldMemNnIy (nn : Sys2Proof.Word) : Sys2Proof.Laws.EncodeLength.Statement (.ldMemNnIy nn) :=
  Sys2Proof.Laws.encodeLength_prefixed 4 rfl (by decide) rfl
theorem Sys2Proof.Laws.EncodeLength.ldIyMemNn (nn : Sys2Proof.Word) : Sys2Proof.Laws.EncodeLength.Statement (.ldIyMemNn nn) :=
  Sys2Proof.Laws.encodeLength_prefixed 4 rfl (by decide) rfl
theorem Sys2Proof.Laws.EncodeLength.incIyHalf (h : Sys2Proof.Half) : Sys2Proof.Laws.EncodeLength.Statement (.incIyHalf h) :=
  by cases h <;> exact fun _ _ => rfl
theorem Sys2Proof.Laws.EncodeLength.decIyHalf (h : Sys2Proof.Half) : Sys2Proof.Laws.EncodeLength.Statement (.decIyHalf h) :=
  by cases h <;> exact fun _ _ => rfl
theorem Sys2Proof.Laws.EncodeLength.ldIyHalfN (h : Sys2Proof.Half) (n : Sys2Proof.Byte) : Sys2Proof.Laws.EncodeLength.Statement (.ldIyHalfN h n) :=
  by cases h <;> exact Sys2Proof.Laws.encodeLength_prefixed 3 rfl (by decide) rfl
theorem Sys2Proof.Laws.EncodeLength.incMemIy (d : Sys2Proof.Byte) : Sys2Proof.Laws.EncodeLength.Statement (.incMemIy d) :=
  Sys2Proof.Laws.encodeLength_prefixed 3 rfl (by decide) rfl
theorem Sys2Proof.Laws.EncodeLength.decMemIy (d : Sys2Proof.Byte) : Sys2Proof.Laws.EncodeLength.Statement (.decMemIy d) :=
  Sys2Proof.Laws.encodeLength_prefixed 3 rfl (by decide) rfl
theorem Sys2Proof.Laws.EncodeLength.ldMemIyN (d : Sys2Proof.Byte) (n : Sys2Proof.Byte) : Sys2Proof.Laws.EncodeLength.Statement (.ldMemIyN d n) :=
  Sys2Proof.Laws.encodeLength_prefixed 4 rfl (by decide) rfl
theorem Sys2Proof.Laws.EncodeLength.ldRMemIy (r : Sys2Proof.Reg8) (d : Sys2Proof.Byte) : Sys2Proof.Laws.EncodeLength.Statement (.ldRMemIy r d) :=
  by cases r <;> exact Sys2Proof.Laws.encodeLength_prefixed 3 rfl (by decide) rfl
theorem Sys2Proof.Laws.EncodeLength.ldMemIyR (d : Sys2Proof.Byte) (r : Sys2Proof.Reg8) : Sys2Proof.Laws.EncodeLength.Statement (.ldMemIyR d r) :=
  by cases r <;> exact Sys2Proof.Laws.encodeLength_prefixed 3 rfl (by decide) rfl
theorem Sys2Proof.Laws.EncodeLength.ldPPIy (dst : Sys2Proof.RegP) (src : Sys2Proof.RegP) : Sys2Proof.Laws.EncodeLength.Statement (.ldPPIy dst src) :=
  by cases dst <;> cases src <;> intro h _ <;> first | rfl | cases h
theorem Sys2Proof.Laws.EncodeLength.addAIyHalf (h : Sys2Proof.Half) : Sys2Proof.Laws.EncodeLength.Statement (.addAIyHalf h) :=
  by cases h <;> exact fun _ _ => rfl
theorem Sys2Proof.Laws.EncodeLength.addAMemIy (d : Sys2Proof.Byte) : Sys2Proof.Laws.EncodeLength.Statement (.addAMemIy d) :=
  Sys2Proof.Laws.encodeLength_prefixed 3 rfl (by decide) rfl
theorem Sys2Proof.Laws.EncodeLength.adcAIyHalf (h : Sys2Proof.Half) : Sys2Proof.Laws.EncodeLength.Statement (.adcAIyHalf h) :=
  by cases h <;> exact fun _ _ => rfl
theorem Sys2Proof.Laws.EncodeLength.adcAMemIy (d : Sys2Proof.Byte) : Sys2Proof.Laws.EncodeLength.Statement (.adcAMemIy d) :=
  Sys2Proof.Laws.encodeLength_prefixed 3 rfl (by decide) rfl
theorem Sys2Proof.Laws.EncodeLength.subIyHalf (h : Sys2Proof.Half) : Sys2Proof.Laws.EncodeLength.Statement (.subIyHalf h) :=
  by cases h <;> exact fun _ _ => rfl
theorem Sys2Proof.Laws.EncodeLength.subMemIy (d : Sys2Proof.Byte) : Sys2Proof.Laws.EncodeLength.Statement (.subMemIy d) :=
  Sys2Proof.Laws.encodeLength_prefixed 3 rfl (by decide) rfl
theorem Sys2Proof.Laws.EncodeLength.sbcAIyHalf (h : Sys2Proof.Half) : Sys2Proof.Laws.EncodeLength.Statement (.sbcAIyHalf h) :=
  by cases h <;> exact fun _ _ => rfl
theorem Sys2Proof.Laws.EncodeLength.sbcAMemIy (d : Sys2Proof.Byte) : Sys2Proof.Laws.EncodeLength.Statement (.sbcAMemIy d) :=
  Sys2Proof.Laws.encodeLength_prefixed 3 rfl (by decide) rfl
theorem Sys2Proof.Laws.EncodeLength.andIyHalf (h : Sys2Proof.Half) : Sys2Proof.Laws.EncodeLength.Statement (.andIyHalf h) :=
  by cases h <;> exact fun _ _ => rfl
theorem Sys2Proof.Laws.EncodeLength.andMemIy (d : Sys2Proof.Byte) : Sys2Proof.Laws.EncodeLength.Statement (.andMemIy d) :=
  Sys2Proof.Laws.encodeLength_prefixed 3 rfl (by decide) rfl
theorem Sys2Proof.Laws.EncodeLength.xorIyHalf (h : Sys2Proof.Half) : Sys2Proof.Laws.EncodeLength.Statement (.xorIyHalf h) :=
  by cases h <;> exact fun _ _ => rfl
theorem Sys2Proof.Laws.EncodeLength.xorMemIy (d : Sys2Proof.Byte) : Sys2Proof.Laws.EncodeLength.Statement (.xorMemIy d) :=
  Sys2Proof.Laws.encodeLength_prefixed 3 rfl (by decide) rfl
theorem Sys2Proof.Laws.EncodeLength.orIyHalf (h : Sys2Proof.Half) : Sys2Proof.Laws.EncodeLength.Statement (.orIyHalf h) :=
  by cases h <;> exact fun _ _ => rfl
theorem Sys2Proof.Laws.EncodeLength.orMemIy (d : Sys2Proof.Byte) : Sys2Proof.Laws.EncodeLength.Statement (.orMemIy d) :=
  Sys2Proof.Laws.encodeLength_prefixed 3 rfl (by decide) rfl
theorem Sys2Proof.Laws.EncodeLength.cpIyHalf (h : Sys2Proof.Half) : Sys2Proof.Laws.EncodeLength.Statement (.cpIyHalf h) :=
  by cases h <;> exact fun _ _ => rfl
theorem Sys2Proof.Laws.EncodeLength.cpMemIy (d : Sys2Proof.Byte) : Sys2Proof.Laws.EncodeLength.Statement (.cpMemIy d) :=
  Sys2Proof.Laws.encodeLength_prefixed 3 rfl (by decide) rfl
theorem Sys2Proof.Laws.EncodeLength.rlcMemIy (d : Sys2Proof.Byte) : Sys2Proof.Laws.EncodeLength.Statement (.rlcMemIy d) :=
  Sys2Proof.Laws.encodeLength_prefixed 4 rfl (by decide) rfl
theorem Sys2Proof.Laws.EncodeLength.rlcMemIyR (d : Sys2Proof.Byte) (r : Sys2Proof.Reg8) : Sys2Proof.Laws.EncodeLength.Statement (.rlcMemIyR d r) :=
  Sys2Proof.Laws.encodeLength_prefixed 4 rfl (by decide) rfl
theorem Sys2Proof.Laws.EncodeLength.rrcMemIy (d : Sys2Proof.Byte) : Sys2Proof.Laws.EncodeLength.Statement (.rrcMemIy d) :=
  Sys2Proof.Laws.encodeLength_prefixed 4 rfl (by decide) rfl
theorem Sys2Proof.Laws.EncodeLength.rrcMemIyR (d : Sys2Proof.Byte) (r : Sys2Proof.Reg8) : Sys2Proof.Laws.EncodeLength.Statement (.rrcMemIyR d r) :=
  Sys2Proof.Laws.encodeLength_prefixed 4 rfl (by decide) rfl
theorem Sys2Proof.Laws.EncodeLength.rlMemIy (d : Sys2Proof.Byte) : Sys2Proof.Laws.EncodeLength.Statement (.rlMemIy d) :=
  Sys2Proof.Laws.encodeLength_prefixed 4 rfl (by decide) rfl
theorem Sys2Proof.Laws.EncodeLength.rlMemIyR (d : Sys2Proof.Byte) (r : Sys2Proof.Reg8) : Sys2Proof.Laws.EncodeLength.Statement (.rlMemIyR d r) :=
  Sys2Proof.Laws.encodeLength_prefixed 4 rfl (by decide) rfl
theorem Sys2Proof.Laws.EncodeLength.rrMemIy (d : Sys2Proof.Byte) : Sys2Proof.Laws.EncodeLength.Statement (.rrMemIy d) :=
  Sys2Proof.Laws.encodeLength_prefixed 4 rfl (by decide) rfl
theorem Sys2Proof.Laws.EncodeLength.rrMemIyR (d : Sys2Proof.Byte) (r : Sys2Proof.Reg8) : Sys2Proof.Laws.EncodeLength.Statement (.rrMemIyR d r) :=
  Sys2Proof.Laws.encodeLength_prefixed 4 rfl (by decide) rfl
theorem Sys2Proof.Laws.EncodeLength.slaMemIy (d : Sys2Proof.Byte) : Sys2Proof.Laws.EncodeLength.Statement (.slaMemIy d) :=
  Sys2Proof.Laws.encodeLength_prefixed 4 rfl (by decide) rfl
theorem Sys2Proof.Laws.EncodeLength.slaMemIyR (d : Sys2Proof.Byte) (r : Sys2Proof.Reg8) : Sys2Proof.Laws.EncodeLength.Statement (.slaMemIyR d r) :=
  Sys2Proof.Laws.encodeLength_prefixed 4 rfl (by decide) rfl
theorem Sys2Proof.Laws.EncodeLength.sraMemIy (d : Sys2Proof.Byte) : Sys2Proof.Laws.EncodeLength.Statement (.sraMemIy d) :=
  Sys2Proof.Laws.encodeLength_prefixed 4 rfl (by decide) rfl
theorem Sys2Proof.Laws.EncodeLength.sraMemIyR (d : Sys2Proof.Byte) (r : Sys2Proof.Reg8) : Sys2Proof.Laws.EncodeLength.Statement (.sraMemIyR d r) :=
  Sys2Proof.Laws.encodeLength_prefixed 4 rfl (by decide) rfl
theorem Sys2Proof.Laws.EncodeLength.sllMemIy (d : Sys2Proof.Byte) : Sys2Proof.Laws.EncodeLength.Statement (.sllMemIy d) :=
  Sys2Proof.Laws.encodeLength_prefixed 4 rfl (by decide) rfl
theorem Sys2Proof.Laws.EncodeLength.sllMemIyR (d : Sys2Proof.Byte) (r : Sys2Proof.Reg8) : Sys2Proof.Laws.EncodeLength.Statement (.sllMemIyR d r) :=
  Sys2Proof.Laws.encodeLength_prefixed 4 rfl (by decide) rfl
theorem Sys2Proof.Laws.EncodeLength.srlMemIy (d : Sys2Proof.Byte) : Sys2Proof.Laws.EncodeLength.Statement (.srlMemIy d) :=
  Sys2Proof.Laws.encodeLength_prefixed 4 rfl (by decide) rfl
theorem Sys2Proof.Laws.EncodeLength.srlMemIyR (d : Sys2Proof.Byte) (r : Sys2Proof.Reg8) : Sys2Proof.Laws.EncodeLength.Statement (.srlMemIyR d r) :=
  Sys2Proof.Laws.encodeLength_prefixed 4 rfl (by decide) rfl
theorem Sys2Proof.Laws.EncodeLength.bitMemIy (b : BitVec 3) (d : Sys2Proof.Byte) : Sys2Proof.Laws.EncodeLength.Statement (.bitMemIy b d) :=
  Sys2Proof.Laws.encodeLength_prefixed 4 rfl (by decide) rfl
theorem Sys2Proof.Laws.EncodeLength.bitMemIyZ (b : BitVec 3) (d : Sys2Proof.Byte) (r : Sys2Proof.Reg8) : Sys2Proof.Laws.EncodeLength.Statement (.bitMemIyZ b d r) :=
  Sys2Proof.Laws.encodeLength_prefixed 4 rfl (by decide) rfl
theorem Sys2Proof.Laws.EncodeLength.resMemIy (b : BitVec 3) (d : Sys2Proof.Byte) : Sys2Proof.Laws.EncodeLength.Statement (.resMemIy b d) :=
  Sys2Proof.Laws.encodeLength_prefixed 4 rfl (by decide) rfl
theorem Sys2Proof.Laws.EncodeLength.resMemIyR (b : BitVec 3) (d : Sys2Proof.Byte) (r : Sys2Proof.Reg8) : Sys2Proof.Laws.EncodeLength.Statement (.resMemIyR b d r) :=
  Sys2Proof.Laws.encodeLength_prefixed 4 rfl (by decide) rfl
theorem Sys2Proof.Laws.EncodeLength.setMemIy (b : BitVec 3) (d : Sys2Proof.Byte) : Sys2Proof.Laws.EncodeLength.Statement (.setMemIy b d) :=
  Sys2Proof.Laws.encodeLength_prefixed 4 rfl (by decide) rfl
theorem Sys2Proof.Laws.EncodeLength.setMemIyR (b : BitVec 3) (d : Sys2Proof.Byte) (r : Sys2Proof.Reg8) : Sys2Proof.Laws.EncodeLength.Statement (.setMemIyR b d r) :=
  Sys2Proof.Laws.encodeLength_prefixed 4 rfl (by decide) rfl
theorem Sys2Proof.Laws.EncodeLength.nop : Sys2Proof.Laws.EncodeLength.Statement .nop :=
  Sys2Proof.Laws.encodeLength_base rfl (by decide) rfl
theorem Sys2Proof.Laws.EncodeLength.exAfAf : Sys2Proof.Laws.EncodeLength.Statement .exAfAf :=
  Sys2Proof.Laws.encodeLength_base rfl (by decide) rfl
theorem Sys2Proof.Laws.EncodeLength.ldMemBcA : Sys2Proof.Laws.EncodeLength.Statement .ldMemBcA :=
  Sys2Proof.Laws.encodeLength_base rfl (by decide) rfl
theorem Sys2Proof.Laws.EncodeLength.ldAMemBc : Sys2Proof.Laws.EncodeLength.Statement .ldAMemBc :=
  Sys2Proof.Laws.encodeLength_base rfl (by decide) rfl
theorem Sys2Proof.Laws.EncodeLength.ldMemDeA : Sys2Proof.Laws.EncodeLength.Statement .ldMemDeA :=
  Sys2Proof.Laws.encodeLength_base rfl (by decide) rfl
theorem Sys2Proof.Laws.EncodeLength.ldAMemDe : Sys2Proof.Laws.EncodeLength.Statement .ldAMemDe :=
  Sys2Proof.Laws.encodeLength_base rfl (by decide) rfl
theorem Sys2Proof.Laws.EncodeLength.incMemHl : Sys2Proof.Laws.EncodeLength.Statement .incMemHl :=
  Sys2Proof.Laws.encodeLength_base rfl (by decide) rfl
theorem Sys2Proof.Laws.EncodeLength.decMemHl : Sys2Proof.Laws.EncodeLength.Statement .decMemHl :=
  Sys2Proof.Laws.encodeLength_base rfl (by decide) rfl
theorem Sys2Proof.Laws.EncodeLength.rlca : Sys2Proof.Laws.EncodeLength.Statement .rlca :=
  Sys2Proof.Laws.encodeLength_base rfl (by decide) rfl
theorem Sys2Proof.Laws.EncodeLength.rrca : Sys2Proof.Laws.EncodeLength.Statement .rrca :=
  Sys2Proof.Laws.encodeLength_base rfl (by decide) rfl
theorem Sys2Proof.Laws.EncodeLength.rla : Sys2Proof.Laws.EncodeLength.Statement .rla :=
  Sys2Proof.Laws.encodeLength_base rfl (by decide) rfl
theorem Sys2Proof.Laws.EncodeLength.rra : Sys2Proof.Laws.EncodeLength.Statement .rra :=
  Sys2Proof.Laws.encodeLength_base rfl (by decide) rfl
theorem Sys2Proof.Laws.EncodeLength.daa : Sys2Proof.Laws.EncodeLength.Statement .daa :=
  Sys2Proof.Laws.encodeLength_base rfl (by decide) rfl
theorem Sys2Proof.Laws.EncodeLength.cpl : Sys2Proof.Laws.EncodeLength.Statement .cpl :=
  Sys2Proof.Laws.encodeLength_base rfl (by decide) rfl
theorem Sys2Proof.Laws.EncodeLength.scf : Sys2Proof.Laws.EncodeLength.Statement .scf :=
  Sys2Proof.Laws.encodeLength_base rfl (by decide) rfl
theorem Sys2Proof.Laws.EncodeLength.ccf : Sys2Proof.Laws.EncodeLength.Statement .ccf :=
  Sys2Proof.Laws.encodeLength_base rfl (by decide) rfl
theorem Sys2Proof.Laws.EncodeLength.halt : Sys2Proof.Laws.EncodeLength.Statement .halt :=
  Sys2Proof.Laws.encodeLength_base rfl (by decide) rfl
theorem Sys2Proof.Laws.EncodeLength.addAMemHl : Sys2Proof.Laws.EncodeLength.Statement .addAMemHl :=
  Sys2Proof.Laws.encodeLength_base rfl (by decide) rfl
theorem Sys2Proof.Laws.EncodeLength.adcAMemHl : Sys2Proof.Laws.EncodeLength.Statement .adcAMemHl :=
  Sys2Proof.Laws.encodeLength_base rfl (by decide) rfl
theorem Sys2Proof.Laws.EncodeLength.subMemHl : Sys2Proof.Laws.EncodeLength.Statement .subMemHl :=
  Sys2Proof.Laws.encodeLength_base rfl (by decide) rfl
theorem Sys2Proof.Laws.EncodeLength.sbcAMemHl : Sys2Proof.Laws.EncodeLength.Statement .sbcAMemHl :=
  Sys2Proof.Laws.encodeLength_base rfl (by decide) rfl
theorem Sys2Proof.Laws.EncodeLength.andMemHl : Sys2Proof.Laws.EncodeLength.Statement .andMemHl :=
  Sys2Proof.Laws.encodeLength_base rfl (by decide) rfl
theorem Sys2Proof.Laws.EncodeLength.xorMemHl : Sys2Proof.Laws.EncodeLength.Statement .xorMemHl :=
  Sys2Proof.Laws.encodeLength_base rfl (by decide) rfl
theorem Sys2Proof.Laws.EncodeLength.orMemHl : Sys2Proof.Laws.EncodeLength.Statement .orMemHl :=
  Sys2Proof.Laws.encodeLength_base rfl (by decide) rfl
theorem Sys2Proof.Laws.EncodeLength.cpMemHl : Sys2Proof.Laws.EncodeLength.Statement .cpMemHl :=
  Sys2Proof.Laws.encodeLength_base rfl (by decide) rfl
theorem Sys2Proof.Laws.EncodeLength.ret : Sys2Proof.Laws.EncodeLength.Statement .ret :=
  Sys2Proof.Laws.encodeLength_base rfl (by decide) rfl
theorem Sys2Proof.Laws.EncodeLength.exx : Sys2Proof.Laws.EncodeLength.Statement .exx :=
  Sys2Proof.Laws.encodeLength_base rfl (by decide) rfl
theorem Sys2Proof.Laws.EncodeLength.jpHl : Sys2Proof.Laws.EncodeLength.Statement .jpHl :=
  Sys2Proof.Laws.encodeLength_base rfl (by decide) rfl
theorem Sys2Proof.Laws.EncodeLength.ldSpHl : Sys2Proof.Laws.EncodeLength.Statement .ldSpHl :=
  Sys2Proof.Laws.encodeLength_base rfl (by decide) rfl
theorem Sys2Proof.Laws.EncodeLength.prefixCb : Sys2Proof.Laws.EncodeLength.Statement .prefixCb := fun _ h => nomatch h
theorem Sys2Proof.Laws.EncodeLength.exMemSpHl : Sys2Proof.Laws.EncodeLength.Statement .exMemSpHl :=
  Sys2Proof.Laws.encodeLength_base rfl (by decide) rfl
theorem Sys2Proof.Laws.EncodeLength.exDeHl : Sys2Proof.Laws.EncodeLength.Statement .exDeHl :=
  Sys2Proof.Laws.encodeLength_base rfl (by decide) rfl
theorem Sys2Proof.Laws.EncodeLength.di : Sys2Proof.Laws.EncodeLength.Statement .di := Sys2Proof.Laws.encodeLength_base rfl (by decide) rfl
theorem Sys2Proof.Laws.EncodeLength.ei : Sys2Proof.Laws.EncodeLength.Statement .ei := Sys2Proof.Laws.encodeLength_base rfl (by decide) rfl
theorem Sys2Proof.Laws.EncodeLength.prefixDd : Sys2Proof.Laws.EncodeLength.Statement .prefixDd := fun _ h => nomatch h
theorem Sys2Proof.Laws.EncodeLength.prefixEd : Sys2Proof.Laws.EncodeLength.Statement .prefixEd := fun _ h => nomatch h
theorem Sys2Proof.Laws.EncodeLength.prefixFd : Sys2Proof.Laws.EncodeLength.Statement .prefixFd := fun _ h => nomatch h
theorem Sys2Proof.Laws.EncodeLength.rlcMemHl : Sys2Proof.Laws.EncodeLength.Statement .rlcMemHl := fun _ _ => rfl
theorem Sys2Proof.Laws.EncodeLength.rrcMemHl : Sys2Proof.Laws.EncodeLength.Statement .rrcMemHl := fun _ _ => rfl
theorem Sys2Proof.Laws.EncodeLength.rlMemHl : Sys2Proof.Laws.EncodeLength.Statement .rlMemHl := fun _ _ => rfl
theorem Sys2Proof.Laws.EncodeLength.rrMemHl : Sys2Proof.Laws.EncodeLength.Statement .rrMemHl := fun _ _ => rfl
theorem Sys2Proof.Laws.EncodeLength.slaMemHl : Sys2Proof.Laws.EncodeLength.Statement .slaMemHl := fun _ _ => rfl
theorem Sys2Proof.Laws.EncodeLength.sraMemHl : Sys2Proof.Laws.EncodeLength.Statement .sraMemHl := fun _ _ => rfl
theorem Sys2Proof.Laws.EncodeLength.sllMemHl : Sys2Proof.Laws.EncodeLength.Statement .sllMemHl := fun _ _ => rfl
theorem Sys2Proof.Laws.EncodeLength.srlMemHl : Sys2Proof.Laws.EncodeLength.Statement .srlMemHl := fun _ _ => rfl
theorem Sys2Proof.Laws.EncodeLength.inC : Sys2Proof.Laws.EncodeLength.Statement .inC := fun _ _ => rfl
theorem Sys2Proof.Laws.EncodeLength.outC0 : Sys2Proof.Laws.EncodeLength.Statement .outC0 := fun _ _ => rfl
theorem Sys2Proof.Laws.EncodeLength.neg : Sys2Proof.Laws.EncodeLength.Statement .neg := fun _ _ => rfl
theorem Sys2Proof.Laws.EncodeLength.retn : Sys2Proof.Laws.EncodeLength.Statement .retn := fun _ _ => rfl
theorem Sys2Proof.Laws.EncodeLength.reti : Sys2Proof.Laws.EncodeLength.Statement .reti := fun _ _ => rfl
theorem Sys2Proof.Laws.EncodeLength.im0 : Sys2Proof.Laws.EncodeLength.Statement .im0 := fun _ _ => rfl
theorem Sys2Proof.Laws.EncodeLength.im1 : Sys2Proof.Laws.EncodeLength.Statement .im1 := fun _ _ => rfl
theorem Sys2Proof.Laws.EncodeLength.im2 : Sys2Proof.Laws.EncodeLength.Statement .im2 := fun _ _ => rfl
theorem Sys2Proof.Laws.EncodeLength.im1Mirror : Sys2Proof.Laws.EncodeLength.Statement .im1Mirror := fun _ _ => rfl
theorem Sys2Proof.Laws.EncodeLength.im2Mirror : Sys2Proof.Laws.EncodeLength.Statement .im2Mirror := fun _ _ => rfl
theorem Sys2Proof.Laws.EncodeLength.ldIA : Sys2Proof.Laws.EncodeLength.Statement .ldIA := fun _ _ => rfl
theorem Sys2Proof.Laws.EncodeLength.ldRA : Sys2Proof.Laws.EncodeLength.Statement .ldRA := fun _ _ => rfl
theorem Sys2Proof.Laws.EncodeLength.ldAI : Sys2Proof.Laws.EncodeLength.Statement .ldAI := fun _ _ => rfl
theorem Sys2Proof.Laws.EncodeLength.ldAR : Sys2Proof.Laws.EncodeLength.Statement .ldAR := fun _ _ => rfl
theorem Sys2Proof.Laws.EncodeLength.rrd : Sys2Proof.Laws.EncodeLength.Statement .rrd := fun _ _ => rfl
theorem Sys2Proof.Laws.EncodeLength.rld : Sys2Proof.Laws.EncodeLength.Statement .rld := fun _ _ => rfl
theorem Sys2Proof.Laws.EncodeLength.ldi : Sys2Proof.Laws.EncodeLength.Statement .ldi := fun _ _ => rfl
theorem Sys2Proof.Laws.EncodeLength.cpi : Sys2Proof.Laws.EncodeLength.Statement .cpi := fun _ _ => rfl
theorem Sys2Proof.Laws.EncodeLength.ini : Sys2Proof.Laws.EncodeLength.Statement .ini := fun _ _ => rfl
theorem Sys2Proof.Laws.EncodeLength.outi : Sys2Proof.Laws.EncodeLength.Statement .outi := fun _ _ => rfl
theorem Sys2Proof.Laws.EncodeLength.ldd : Sys2Proof.Laws.EncodeLength.Statement .ldd := fun _ _ => rfl
theorem Sys2Proof.Laws.EncodeLength.cpd : Sys2Proof.Laws.EncodeLength.Statement .cpd := fun _ _ => rfl
theorem Sys2Proof.Laws.EncodeLength.ind : Sys2Proof.Laws.EncodeLength.Statement .ind := fun _ _ => rfl
theorem Sys2Proof.Laws.EncodeLength.outd : Sys2Proof.Laws.EncodeLength.Statement .outd := fun _ _ => rfl
theorem Sys2Proof.Laws.EncodeLength.ldir : Sys2Proof.Laws.EncodeLength.Statement .ldir := fun _ _ => rfl
theorem Sys2Proof.Laws.EncodeLength.cpir : Sys2Proof.Laws.EncodeLength.Statement .cpir := fun _ _ => rfl
theorem Sys2Proof.Laws.EncodeLength.inir : Sys2Proof.Laws.EncodeLength.Statement .inir := fun _ _ => rfl
theorem Sys2Proof.Laws.EncodeLength.otir : Sys2Proof.Laws.EncodeLength.Statement .otir := fun _ _ => rfl
theorem Sys2Proof.Laws.EncodeLength.lddr : Sys2Proof.Laws.EncodeLength.Statement .lddr := fun _ _ => rfl
theorem Sys2Proof.Laws.EncodeLength.cpdr : Sys2Proof.Laws.EncodeLength.Statement .cpdr := fun _ _ => rfl
theorem Sys2Proof.Laws.EncodeLength.indr : Sys2Proof.Laws.EncodeLength.Statement .indr := fun _ _ => rfl
theorem Sys2Proof.Laws.EncodeLength.otdr : Sys2Proof.Laws.EncodeLength.Statement .otdr := fun _ _ => rfl
theorem Sys2Proof.Laws.EncodeLength.incIx : Sys2Proof.Laws.EncodeLength.Statement .incIx := fun _ _ => rfl
theorem Sys2Proof.Laws.EncodeLength.decIx : Sys2Proof.Laws.EncodeLength.Statement .decIx := fun _ _ => rfl
theorem Sys2Proof.Laws.EncodeLength.prefixDdCb : Sys2Proof.Laws.EncodeLength.Statement .prefixDdCb := fun _ h => nomatch h
theorem Sys2Proof.Laws.EncodeLength.popIx : Sys2Proof.Laws.EncodeLength.Statement .popIx := fun _ _ => rfl
theorem Sys2Proof.Laws.EncodeLength.exMemSpIx : Sys2Proof.Laws.EncodeLength.Statement .exMemSpIx := fun _ _ => rfl
theorem Sys2Proof.Laws.EncodeLength.pushIx : Sys2Proof.Laws.EncodeLength.Statement .pushIx := fun _ _ => rfl
theorem Sys2Proof.Laws.EncodeLength.jpIx : Sys2Proof.Laws.EncodeLength.Statement .jpIx := fun _ _ => rfl
theorem Sys2Proof.Laws.EncodeLength.ldSpIx : Sys2Proof.Laws.EncodeLength.Statement .ldSpIx := fun _ _ => rfl
theorem Sys2Proof.Laws.EncodeLength.noniDd : Sys2Proof.Laws.EncodeLength.Statement .noniDd := fun _ _ => rfl
theorem Sys2Proof.Laws.EncodeLength.incIy : Sys2Proof.Laws.EncodeLength.Statement .incIy := fun _ _ => rfl
theorem Sys2Proof.Laws.EncodeLength.decIy : Sys2Proof.Laws.EncodeLength.Statement .decIy := fun _ _ => rfl
theorem Sys2Proof.Laws.EncodeLength.prefixFdCb : Sys2Proof.Laws.EncodeLength.Statement .prefixFdCb := fun _ h => nomatch h
theorem Sys2Proof.Laws.EncodeLength.popIy : Sys2Proof.Laws.EncodeLength.Statement .popIy := fun _ _ => rfl
theorem Sys2Proof.Laws.EncodeLength.exMemSpIy : Sys2Proof.Laws.EncodeLength.Statement .exMemSpIy := fun _ _ => rfl
theorem Sys2Proof.Laws.EncodeLength.pushIy : Sys2Proof.Laws.EncodeLength.Statement .pushIy := fun _ _ => rfl
theorem Sys2Proof.Laws.EncodeLength.jpIy : Sys2Proof.Laws.EncodeLength.Statement .jpIy := fun _ _ => rfl
theorem Sys2Proof.Laws.EncodeLength.ldSpIy : Sys2Proof.Laws.EncodeLength.Statement .ldSpIy := fun _ _ => rfl
theorem Sys2Proof.Laws.EncodeLength.noniFd : Sys2Proof.Laws.EncodeLength.Statement .noniFd := fun _ _ => rfl
end

