-- ==== Sys2Proof/Laws/Step.lean ====
section
/-! SUPPORT. Everything a step can do, said once: whose turn it is, what a CPU step is, what the interrupt unit does. -/

namespace Sys2Proof.Machine

/-- A step is a line of the VDP or a CPU step (60_exceptions R651). -/
theorem step_cases {s : State} {o : Out} (h : step s = o) :
    (s.cpuTurn = false ∧ o = .next s.vdpLineStep) ∨ (s.cpuTurn = true ∧ s.cpuStep = o) := by
  unfold step at h
  split at h
  · exact .inr ⟨‹_›, h⟩
  · exact .inl ⟨eq_false_of_ne_true ‹_›, h.symm⟩

/-- A CPU step that goes on: a halted tick or the fetched instruction, then the interrupt unit (60_exceptions R650). -/
theorem cpuStep_next {s t : State} (h : s.cpuStep = .next t) :
    ∃ u, ((s.cpu.halted = true ∧ u = s.haltedTick) ∨ (s.cpu.halted = false ∧ exec s.fetched s.afterFetch = .next u)) ∧
      u.interruptResolve = .next t := by
  unfold State.cpuStep at h
  cases hh : s.cpu.halted
  · rw [hh, if_neg (by simp)] at h
    cases he : exec s.fetched s.afterFetch with
    | next u =>
      simp only [State.instructionStep, he, bindOut] at h
      exact ⟨u, .inr ⟨rfl, rfl⟩, h⟩
    | fault r => simp [State.instructionStep, he, bindOut] at h
    | refused r => simp [State.instructionStep, he, bindOut] at h
  · rw [hh, if_pos rfl] at h
    exact ⟨_, .inl ⟨rfl, rfl⟩, h⟩

/-- The interrupt unit that goes on: the inhibit used up, an entry, or nothing (60_exceptions R610). -/
theorem interruptResolve_next {s t : State} (h : s.interruptResolve = .next t) :
    t = { s with cpu.intInhibit := false } ∨ t = s.nmiEntry ∨ s.maskableEntry = .next t ∨ t = s := by
  unfold State.interruptResolve at h
  split at h
  · exact .inl (Host.Outcome.next.inj h).symm
  split at h
  · exact .inr (.inl (Host.Outcome.next.inj h).symm)
  split at h
  · exact .inr (.inr (.inl h))
  · exact .inr (.inr (.inr (Host.Outcome.next.inj h).symm))

/-- A maskable entry that goes on takes the interrupt with both flip-flops clear (60_exceptions R612). -/
theorem maskableEntry_next {s t : State} (h : s.maskableEntry = .next t) :
    ∃ target cost, t = State.takeInterrupt { s with cpu.iff2 := false } target cost ∧
      cost ∈ [s.cfg.im0Cost, s.cfg.im1Cost, s.cfg.im2Cost] := by
  unfold State.maskableEntry at h
  dsimp only at h
  split at h
  · split at h
    · exact ⟨_, _, (Host.Outcome.next.inj h).symm, by simp⟩
    · cases h
  · exact ⟨_, _, (Host.Outcome.next.inj h).symm, by simp⟩
  · exact ⟨_, _, (Host.Outcome.next.inj h).symm, by simp⟩

/-- No step meets a prefix row (30_encoding R141). -/
theorem fetched_not_prefixRow (s : State) : isPrefixRow s.fetched = false := decodeWindow_not_prefixRow _ _ _ _

end Sys2Proof.Machine
end

