-- ==== Sys2Proof/Laws/Vdp.lean ====
section
/-! SUPPORT. The VDP operations: VRAM stays canonical, and what each leaves alone. -/

namespace Sys2Proof.Machine

theorem Vdp.addr_lt (d : Vdp) : d.addr < vramSize := (d.codeAddr.extractLsb' 0 14).isLt

/-- A data write keeps VRAM canonical (60_exceptions R644). -/
theorem Vdp.dataWrite_vram_wf {d : Vdp} (h : Memory.wf vramSize d.vram = true) (v : Byte) :
    Memory.wf vramSize (d.dataWrite v).vram = true := by
  unfold Vdp.dataWrite Vdp.nextAddr
  dsimp only
  split
  · exact h
  · exact Memory.wf_write h (Vdp.addr_lt _) v

/-- A control write keeps VRAM (60_exceptions R643). -/
@[simp] theorem Vdp.controlWrite_vram (d : Vdp) (v : Byte) : (d.controlWrite v).1.vram = d.vram := by
  unfold Vdp.controlWrite
  dsimp only
  repeat' split
  all_goals rfl

@[simp] theorem Vdp.dataRead_vram (d : Vdp) : d.dataRead.2.vram = d.vram := rfl
@[simp] theorem Vdp.statusRead_vram (d : Vdp) : d.statusRead.2.vram = d.vram := rfl

@[simp] theorem Vdp.controlWrite_v (d : Vdp) (v : Byte) : (d.controlWrite v).1.v = d.v := by
  unfold Vdp.controlWrite
  dsimp only
  repeat' split
  all_goals rfl

@[simp] theorem Vdp.dataWrite_v (d : Vdp) (v : Byte) : (d.dataWrite v).v = d.v := by
  unfold Vdp.dataWrite Vdp.nextAddr
  dsimp only
  split <;> rfl

@[simp] theorem Vdp.controlWrite_vdpCycles (d : Vdp) (v : Byte) : (d.controlWrite v).1.vdpCycles = d.vdpCycles := by
  unfold Vdp.controlWrite
  dsimp only
  repeat' split
  all_goals rfl

@[simp] theorem Vdp.dataWrite_vdpCycles (d : Vdp) (v : Byte) : (d.dataWrite v).vdpCycles = d.vdpCycles := by
  unfold Vdp.dataWrite Vdp.nextAddr
  dsimp only
  split <;> rfl

@[simp] theorem Vdp.controlWrite_h (d : Vdp) (v : Byte) : (d.controlWrite v).1.h = d.h := by
  unfold Vdp.controlWrite
  dsimp only
  repeat' split
  all_goals rfl

@[simp] theorem Vdp.dataWrite_h (d : Vdp) (v : Byte) : (d.dataWrite v).h = d.h := by
  unfold Vdp.dataWrite Vdp.nextAddr
  dsimp only
  split <;> rfl

/-- The counter reaches 0xFF exactly from 0 (60_exceptions R630). -/
theorem lineCounter_wrap (b : Byte) : b - 1 = 0xFF ↔ b = 0 := by revert b; decide

/-- A line step keeps everything but VDP state and the draws (60_exceptions R630). -/
theorem State.vdpLineStep_frame (s : State) : s.vdpLineStep = { s with vdp := s.vdpLineStep.vdp, draws := s.vdpLineStep.draws } := by
  unfold State.vdpLineStep
  dsimp only
  split <;> rfl

end Sys2Proof.Machine
end

