-- ==== Sys2Proof/Tests/Slice0.lean ====
section
/-! SUPPORT. My own tests: ill-formed terms refused, every table row's word decoded (the words written out from the encodings of
opcode_table.json), single steps with results worked out by hand from the rules, and a witness for the hypotheses of every statement. -/

namespace Sys2Proof.Tests

open Sys2Proof.Machine

/-! ### Well-formedness -/

/-- Each check of WellFormed.lean refuses a term the table does not hold (30_encoding R159; 40_load8 R222). -/
theorem test_illFormed_refused :
    Instr.wf (.negMirror 0) = false ∧ Instr.wf (.retnMirror 0) = false ∧ Instr.wf (.retnMirror 1) = false ∧
      Instr.wf (.im0Mirror 0) = false ∧ Instr.wf (.im0Mirror 2) = false ∧ Instr.wf (.im0Mirror 3) = false ∧
      Instr.wf (.im0Mirror 6) = false ∧ Instr.wf (.im0Mirror 7) = false ∧ Instr.wf (.ldPPIx .b .c) = false ∧
      Instr.wf (.ldPPIy .a .e) = false := by decide

theorem test_wellFormed_accepted :
    Instr.wf (.negMirror 1) = true ∧ Instr.wf (.retnMirror 2) = true ∧ Instr.wf (.im0Mirror 1) = true ∧
      Instr.wf (.im0Mirror 4) = true ∧ Instr.wf (.im0Mirror 5) = true ∧ Instr.wf (.ldPPIx .hi .c) = true ∧
      Instr.wf (.ldPPIy .a .lo) = true := by decide

/-! ### Decoding -/

/-- Whether each byte list is exactly the encoding of its instruction. -/
def decodesAll (ts : List (List Byte × Instr)) : Bool :=
  ts.all fun t => match decode t.1 with | .ok (i, []) => i == t.2 | _ => false

theorem test_decode_load8 : decodesAll [
    ([0b00000010], .ldMemBcA), ([0b00001010], .ldAMemBc), ([0b00010010], .ldMemDeA), ([0b00011010], .ldAMemDe),
    ([0b00110010, 0x38, 0x99], .ldMemNnA 0x9938), ([0b00111010, 0x30, 0x91], .ldAMemNn 0x9130), ([0b00011110, 0x5A], .ldRN .e 0x5A),
    ([0b00110110, 0x5B], .ldMemHlN 0x5B), ([0b01000011], .ldRR .b .e), ([0b01011110], .ldRMemHl .e), ([0b01110011], .ldMemHlR .e),
    ([0b11101101, 0b01000111], .ldIA), ([0b11101101, 0b01001111], .ldRA), ([0b11101101, 0b01010111], .ldAI),
    ([0b11101101, 0b01011111], .ldAR), ([0b11011101, 0b00100110, 0x5C], .ldIxHalfN .hi 0x5C),
    ([0b11011101, 0b00110110, 0x86, 0x5A], .ldMemIxN 0x86 0x5A), ([0b11011101, 0b01011110, 0x80], .ldRMemIx .e 0x80),
    ([0b11011101, 0b01110011, 0x81], .ldMemIxR 0x81 .e), ([0b11011101, 0b01101001], .ldPPIx .lo .c),
    ([0b11111101, 0b00100110, 0x5A], .ldIyHalfN .hi 0x5A), ([0b11111101, 0b00110110, 0x81, 0x5D], .ldMemIyN 0x81 0x5D),
    ([0b11111101, 0b01011110, 0x82], .ldRMemIy .e 0x82), ([0b11111101, 0b01110011, 0x83], .ldMemIyR 0x83 .e),
    ([0b11111101, 0b01100111], .ldPPIy .hi .a)] = true := by decide

theorem test_decode_load16_stack : decodesAll [
    ([0b00100001, 0x30, 0x91], .ldDdNn .hl 0x9130), ([0b00100010, 0x36, 0x97], .ldMemNnHl 0x9736),
    ([0b00101010, 0x37, 0x98], .ldHlMemNn 0x9837), ([0b11110001], .popQq .af), ([0b11111001], .ldSpHl), ([0b11010101], .pushQq .de),
    ([0b11101101, 0b01100011, 0x31, 0x92], .ldMemNnDd 0x9231 .hl), ([0b11101101, 0b01011011, 0x32, 0x93], .ldDdMemNn .de 0x9332),
    ([0b11011101, 0b00100001, 0x36, 0x97], .ldIxNn 0x9736), ([0b11011101, 0b00100010, 0x37, 0x98], .ldMemNnIx 0x9837),
    ([0b11011101, 0b00101010, 0x30, 0x91], .ldIxMemNn 0x9130), ([0b11011101, 0b11100001], .popIx), ([0b11011101, 0b11100101], .pushIx),
    ([0b11011101, 0b11111001], .ldSpIx), ([0b11111101, 0b00100001, 0x31, 0x92], .ldIyNn 0x9231),
    ([0b11111101, 0b00100010, 0x32, 0x93], .ldMemNnIy 0x9332), ([0b11111101, 0b00101010, 0x34, 0x95], .ldIyMemNn 0x9534),
    ([0b11111101, 0b11100001], .popIy), ([0b11111101, 0b11100101], .pushIy), ([0b11111101, 0b11111001], .ldSpIy)] = true := by decide

theorem test_decode_exchange_block : decodesAll [
    ([0b00001000], .exAfAf), ([0b11011001], .exx), ([0b11100011], .exMemSpHl), ([0b11101011], .exDeHl), ([0b11101101, 0b10100000], .ldi),
    ([0b11101101, 0b10100001], .cpi), ([0b11101101, 0b10101000], .ldd), ([0b11101101, 0b10101001], .cpd),
    ([0b11101101, 0b10110000], .ldir), ([0b11101101, 0b10110001], .cpir), ([0b11101101, 0b10111000], .lddr),
    ([0b11101101, 0b10111001], .cpdr), ([0b11011101, 0b11100011], .exMemSpIx), ([0b11111101, 0b11100011], .exMemSpIy)] = true := by decide

theorem test_decode_alu8_1 : decodesAll [
    ([0b00011100], .incR .e), ([0b00110100], .incMemHl), ([0b00011101], .decR .e), ([0b00110101], .decMemHl), ([0b10000011], .addAR .e),
    ([0b10000110], .addAMemHl), ([0b11000110, 0x5B], .addAN 0x5B), ([0b10001011], .adcAR .e), ([0b10001110], .adcAMemHl),
    ([0b11001110, 0x5E], .adcAN 0x5E), ([0b10010011], .subR .e), ([0b10010110], .subMemHl), ([0b11010110, 0x5C], .subN 0x5C),
    ([0b10011011], .sbcAR .e), ([0b10011110], .sbcAMemHl), ([0b11011110, 0x5A], .sbcAN 0x5A), ([0b10100011], .andR .e),
    ([0b10100110], .andMemHl), ([0b11100110, 0x5D], .andN 0x5D), ([0b10101011], .xorR .e), ([0b10101110], .xorMemHl),
    ([0b11101110, 0x5B], .xorN 0x5B), ([0b10110011], .orR .e), ([0b10110110], .orMemHl), ([0b11110110, 0x5E], .orN 0x5E),
    ([0b10111011], .cpR .e), ([0b10111110], .cpMemHl)] = true := by decide

theorem test_decode_alu8_2 : decodesAll [
    ([0b11111110, 0x5C], .cpN 0x5C), ([0b11011101, 0b00100100], .incIxHalf .hi), ([0b11011101, 0b00101101], .decIxHalf .lo),
    ([0b11011101, 0b00110100, 0x84], .incMemIx 0x84), ([0b11011101, 0b00110101, 0x85], .decMemIx 0x85),
    ([0b11011101, 0b10000101], .addAIxHalf .lo), ([0b11011101, 0b10000110, 0x84], .addAMemIx 0x84),
    ([0b11011101, 0b10001101], .adcAIxHalf .lo), ([0b11011101, 0b10001110, 0x86], .adcAMemIx 0x86),
    ([0b11011101, 0b10010101], .subIxHalf .lo), ([0b11011101, 0b10010110, 0x81], .subMemIx 0x81),
    ([0b11011101, 0b10011101], .sbcAIxHalf .lo), ([0b11011101, 0b10011110, 0x83], .sbcAMemIx 0x83),
    ([0b11011101, 0b10100101], .andIxHalf .lo), ([0b11011101, 0b10100110, 0x85], .andMemIx 0x85),
    ([0b11011101, 0b10101101], .xorIxHalf .lo), ([0b11011101, 0b10101110, 0x80], .xorMemIx 0x80),
    ([0b11011101, 0b10110101], .orIxHalf .lo), ([0b11011101, 0b10110110, 0x82], .orMemIx 0x82),
    ([0b11011101, 0b10111101], .cpIxHalf .lo), ([0b11011101, 0b10111110, 0x84], .cpMemIx 0x84),
    ([0b11111101, 0b00100100], .incIyHalf .hi), ([0b11111101, 0b00101101], .decIyHalf .lo),
    ([0b11111101, 0b00110100, 0x86], .incMemIy 0x86), ([0b11111101, 0b00110101, 0x80], .decMemIy 0x80),
    ([0b11111101, 0b10000101], .addAIyHalf .lo), ([0b11111101, 0b10000110, 0x86], .addAMemIy 0x86)] = true := by decide

theorem test_decode_alu8_3 : decodesAll [
    ([0b11111101, 0b10001101], .adcAIyHalf .lo), ([0b11111101, 0b10001110, 0x81], .adcAMemIy 0x81),
    ([0b11111101, 0b10010101], .subIyHalf .lo), ([0b11111101, 0b10010110, 0x83], .subMemIy 0x83),
    ([0b11111101, 0b10011101], .sbcAIyHalf .lo), ([0b11111101, 0b10011110, 0x85], .sbcAMemIy 0x85),
    ([0b11111101, 0b10100101], .andIyHalf .lo), ([0b11111101, 0b10100110, 0x80], .andMemIy 0x80),
    ([0b11111101, 0b10101101], .xorIyHalf .lo), ([0b11111101, 0b10101110, 0x82], .xorMemIy 0x82),
    ([0b11111101, 0b10110101], .orIyHalf .lo), ([0b11111101, 0b10110110, 0x84], .orMemIy 0x84),
    ([0b11111101, 0b10111101], .cpIyHalf .lo), ([0b11111101, 0b10111110, 0x86], .cpMemIy 0x86)] = true := by decide

theorem test_decode_general : decodesAll [
    ([0b00000000], .nop), ([0b00100111], .daa), ([0b00101111], .cpl), ([0b00110111], .scf), ([0b00111111], .ccf), ([0b01110110], .halt),
    ([0b11110011], .di), ([0b11111011], .ei), ([0b11101101, 0b01000100], .neg), ([0b11101101, 0b01100100], .negMirror 4),
    ([0b11101101, 0b01000110], .im0), ([0b11101101, 0b01010110], .im1), ([0b11101101, 0b01011110], .im2),
    ([0b11101101, 0b01101110], .im0Mirror 5), ([0b11101101, 0b01110110], .im1Mirror), ([0b11101101, 0b01111110], .im2Mirror),
    ([0b11101101, 0b00110011], .nopEdX0 6 3), ([0b11101101, 0b01110111], .nopEd77 0), ([0b11101101, 0b10000001], .nopEd80 0 0 1),
    ([0b11101101, 0b10110100], .nopEdA4 1 0 0), ([0b11101101, 0b11001111], .nopEdX3 1 7)] = true := by decide

theorem test_decode_alu16 : decodesAll [
    ([0b00011001], .addHlSs .de), ([0b00000011], .incSs .bc), ([0b00111011], .decSs .sp), ([0b11101101, 0b01000010], .sbcHlSs .bc),
    ([0b11101101, 0b01111010], .adcHlSs .sp), ([0b11011101, 0b00101001], .addIxPp .idx), ([0b11011101, 0b00100011], .incIx),
    ([0b11011101, 0b00101011], .decIx), ([0b11111101, 0b00001001], .addIyRr .bc), ([0b11111101, 0b00100011], .incIy),
    ([0b11111101, 0b00101011], .decIy)] = true := by decide

theorem test_decode_rotate_shift_1 : decodesAll [
    ([0b00000111], .rlca), ([0b00001111], .rrca), ([0b00010111], .rla), ([0b00011111], .rra), ([0b11001011, 0b00000011], .rlcR .e),
    ([0b11001011, 0b00000110], .rlcMemHl), ([0b11001011, 0b00001011], .rrcR .e), ([0b11001011, 0b00001110], .rrcMemHl),
    ([0b11001011, 0b00010011], .rlR .e), ([0b11001011, 0b00010110], .rlMemHl), ([0b11001011, 0b00011011], .rrR .e),
    ([0b11001011, 0b00011110], .rrMemHl), ([0b11001011, 0b00100011], .slaR .e), ([0b11001011, 0b00100110], .slaMemHl),
    ([0b11001011, 0b00101011], .sraR .e), ([0b11001011, 0b00101110], .sraMemHl), ([0b11001011, 0b00110011], .sllR .e),
    ([0b11001011, 0b00110110], .sllMemHl), ([0b11001011, 0b00111011], .srlR .e), ([0b11001011, 0b00111110], .srlMemHl),
    ([0b11101101, 0b01100111], .rrd), ([0b11101101, 0b01101111], .rld), ([0b11011101, 0b11001011, 0x83, 0b00000110], .rlcMemIx 0x83),
    ([0b11011101, 0b11001011, 0x84, 0b00000011], .rlcMemIxR 0x84 .e), ([0b11011101, 0b11001011, 0x85, 0b00001110], .rrcMemIx 0x85),
    ([0b11011101, 0b11001011, 0x86, 0b00001011], .rrcMemIxR 0x86 .e), ([0b11011101, 0b11001011, 0x80, 0b00010110], .rlMemIx 0x80)] = true := by decide

theorem test_decode_rotate_shift_2 : decodesAll [
    ([0b11011101, 0b11001011, 0x81, 0b00010011], .rlMemIxR 0x81 .e), ([0b11011101, 0b11001011, 0x82, 0b00011110], .rrMemIx 0x82),
    ([0b11011101, 0b11001011, 0x83, 0b00011011], .rrMemIxR 0x83 .e), ([0b11011101, 0b11001011, 0x84, 0b00100110], .slaMemIx 0x84),
    ([0b11011101, 0b11001011, 0x85, 0b00100011], .slaMemIxR 0x85 .e), ([0b11011101, 0b11001011, 0x86, 0b00101110], .sraMemIx 0x86),
    ([0b11011101, 0b11001011, 0x80, 0b00101011], .sraMemIxR 0x80 .e), ([0b11011101, 0b11001011, 0x81, 0b00110110], .sllMemIx 0x81),
    ([0b11011101, 0b11001011, 0x82, 0b00110011], .sllMemIxR 0x82 .e), ([0b11011101, 0b11001011, 0x83, 0b00111110], .srlMemIx 0x83),
    ([0b11011101, 0b11001011, 0x84, 0b00111011], .srlMemIxR 0x84 .e), ([0b11111101, 0b11001011, 0x85, 0b00000110], .rlcMemIy 0x85),
    ([0b11111101, 0b11001011, 0x86, 0b00000011], .rlcMemIyR 0x86 .e), ([0b11111101, 0b11001011, 0x80, 0b00001110], .rrcMemIy 0x80),
    ([0b11111101, 0b11001011, 0x81, 0b00001011], .rrcMemIyR 0x81 .e), ([0b11111101, 0b11001011, 0x82, 0b00010110], .rlMemIy 0x82),
    ([0b11111101, 0b11001011, 0x83, 0b00010011], .rlMemIyR 0x83 .e), ([0b11111101, 0b11001011, 0x84, 0b00011110], .rrMemIy 0x84),
    ([0b11111101, 0b11001011, 0x85, 0b00011011], .rrMemIyR 0x85 .e), ([0b11111101, 0b11001011, 0x86, 0b00100110], .slaMemIy 0x86),
    ([0b11111101, 0b11001011, 0x80, 0b00100011], .slaMemIyR 0x80 .e), ([0b11111101, 0b11001011, 0x81, 0b00101110], .sraMemIy 0x81),
    ([0b11111101, 0b11001011, 0x82, 0b00101011], .sraMemIyR 0x82 .e), ([0b11111101, 0b11001011, 0x83, 0b00110110], .sllMemIy 0x83),
    ([0b11111101, 0b11001011, 0x84, 0b00110011], .sllMemIyR 0x84 .e), ([0b11111101, 0b11001011, 0x85, 0b00111110], .srlMemIy 0x85),
    ([0b11111101, 0b11001011, 0x86, 0b00111011], .srlMemIyR 0x86 .e)] = true := by decide

theorem test_decode_bit : decodesAll [
    ([0b11001011, 0b01001011], .bitR 1 .e), ([0b11001011, 0b01001110], .bitMemHl 1), ([0b11001011, 0b10011011], .resR 3 .e),
    ([0b11001011, 0b10111110], .resMemHl 7), ([0b11001011, 0b11101011], .setR 5 .e), ([0b11001011, 0b11101110], .setMemHl 5),
    ([0b11011101, 0b11001011, 0x85, 0b01010110], .bitMemIx 2 0x85), ([0b11011101, 0b11001011, 0x86, 0b01010011], .bitMemIxZ 2 0x86 .e),
    ([0b11011101, 0b11001011, 0x80, 0b10000110], .resMemIx 0 0x80), ([0b11011101, 0b11001011, 0x81, 0b10100011], .resMemIxR 4 0x81 .e),
    ([0b11011101, 0b11001011, 0x82, 0b11110110], .setMemIx 6 0x82), ([0b11011101, 0b11001011, 0x83, 0b11110011], .setMemIxR 6 0x83 .e),
    ([0b11111101, 0b11001011, 0x80, 0b01000110], .bitMemIy 0 0x80), ([0b11111101, 0b11001011, 0x81, 0b01100011], .bitMemIyZ 4 0x81 .e),
    ([0b11111101, 0b11001011, 0x82, 0b10110110], .resMemIy 6 0x82), ([0b11111101, 0b11001011, 0x83, 0b10110011], .resMemIyR 6 0x83 .e),
    ([0b11111101, 0b11001011, 0x84, 0b11100110], .setMemIy 4 0x84), ([0b11111101, 0b11001011, 0x85, 0b11000011], .setMemIyR 0 0x85 .e)] = true := by decide

theorem test_decode_jump_call_return : decodesAll [
    ([0b00010000, 0xF3], .djnz 0xF3), ([0b00011000, 0xF4], .jr 0xF4), ([0b00100000, 0xF5], .jrNz 0xF5), ([0b00101000, 0xF0], .jrZ 0xF0),
    ([0b00110000, 0xF1], .jrNc 0xF1), ([0b00111000, 0xF2], .jrC 0xF2), ([0b11100000], .retCc .po), ([0b11001001], .ret),
    ([0b11101001], .jpHl), ([0b11110010, 0x36, 0x97], .jpCcNn .p 0x9736), ([0b11000011, 0x37, 0x98], .jpNn 0x9837),
    ([0b11110100, 0x35, 0x96], .callCcNn .p 0x9635), ([0b11001101, 0x37, 0x98], .callNn 0x9837), ([0b11011111], .rst 3),
    ([0b11101101, 0b01000101], .retn), ([0b11101101, 0b01001101], .reti), ([0b11101101, 0b01110101], .retnMirror 6),
    ([0b11011101, 0b11101001], .jpIx), ([0b11111101, 0b11101001], .jpIy)] = true := by decide

theorem test_decode_io : decodesAll [
    ([0b11010011, 0x5B], .outNA 0x5B), ([0b11011011, 0x5C], .inAN 0x5C), ([0b11101101, 0b01011000], .inRC .e),
    ([0b11101101, 0b01110000], .inC), ([0b11101101, 0b01011001], .outCR .e), ([0b11101101, 0b01110001], .outC0),
    ([0b11101101, 0b10100010], .ini), ([0b11101101, 0b10100011], .outi), ([0b11101101, 0b10101010], .ind),
    ([0b11101101, 0b10101011], .outd), ([0b11101101, 0b10110010], .inir), ([0b11101101, 0b10110011], .otir),
    ([0b11101101, 0b10111010], .indr), ([0b11101101, 0b10111011], .otdr)] = true := by decide

/-- The prefix rows alone, and an ignored prefix with the byte after it (30_encoding R152, R163). -/
theorem test_decode_prefixes :
    decodesAll [([0xCB], .prefixCb), ([0xDD], .prefixDd), ([0xED], .prefixEd), ([0xFD], .prefixFd), ([0xDD, 0xCB], .prefixDdCb),
      ([0xFD, 0xCB], .prefixFdCb)] = true ∧
    decode [0xDD, 0xDD, 0x21, 0x34, 0x12] = .ok (.noniDd, [0xDD, 0x21, 0x34, 0x12]) ∧
    decode [0xFD, 0x76] = .ok (.noniFd, [0x76]) := by decide

/-- A list that ends inside an instruction is refused by name. -/
theorem test_decode_truncated :
    decode [] = .error .empty ∧ decode [0x01, 0x34] = .error (.truncated 3 2) ∧ decode [0xDD, 0xCB, 0x05] = .error (.truncated 4 3) := by
  decide

/-! ### Single steps -/

/-- Whether an outcome is a next state with a property. -/
def answers (o : Out) (p : State → Bool) : Bool :=
  match o with
  | .next t => p t
  | _ => false

/-- Whether an outcome is a refusal for a reason. -/
def refuses (o : Out) (r : Refusal) : Bool :=
  match o with
  | .refused q => q == r
  | _ => false

/-- A small Sega session on the CPU's turn: HL at 0xC010 (holding 0x7F), DE at 0xD0FF, IX at 0xC0F0 (0x80 at IX-0x80), SP in RAM. -/
def small : State :=
  { State.reset with
    cpu :=
      { Cpu.reset with
        a := 0x9A
        b := 0x02
        c := 0xBE
        d := 0xD0
        e := 0xFF
        h := 0xC0
        l := 0x10
        ix := 0xC0F0
        iy := 0xDFFF
        sp := 0xDFF0
        i := 0xC1 }
    mapper := (Mapper.reset.setPageByte 0 0x10 0x7F).setPageByte 0 0x70 0x80
    vdp := { Vdp.reset with vdpCycles := 342 } }

/-- The same session on the Codemasters variant. -/
def smallCm : State :=
  { small with mapper := { small.mapper with bank := .codemasters CodemastersBank.reset, slot := #v[1, 2, 3, 4, 1, 2, 0, 0] } }

/-- One step of a session with an instruction word placed at PC. -/
def run (nbits w : Nat) (s : State) (p : State → Bool) : Bool := answers (step (s.withFetchWord nbits w)) p

/-- 0x9A + 0x7F = 0x119 (43_alu8 R322). -/
theorem test_add_carries :
    run 8 0x86 small (fun t => t.cpu.a == 0x19 && t.cpu.f.c && t.cpu.f.h && !t.cpu.f.pv && !t.cpu.f.n && t.cpu.pc == 1) = true := by
  decide

/-- 0x9A - 0x9B borrows (43_alu8 R323); CP leaves A (R332). -/
theorem test_sub_borrows :
    run 16 0x9BD6 small (fun t => t.cpu.a == 0xFF && t.cpu.f.c && t.cpu.f.h && t.cpu.f.s && t.cpu.f.n) = true ∧
    run 16 0x9BFE small (fun t => t.cpu.a == 0x9A && t.cpu.f.c && !t.cpu.f.z) = true := by decide

/-- 0x80 - 0 - 1 overflows (43_alu8 R323, R328). -/
theorem test_sbc_overflows :
    run 16 0x00DE { small with cpu.a := 0x80, cpu.f := { Flags.clear with c := true } }
      (fun t => t.cpu.a == 0x7F && t.cpu.f.pv && !t.cpu.f.c && t.cpu.f.h) = true := by decide

/-- `INC` of 0x7F overflows and keeps C; `DEC` of 0x80 (43_alu8 R334, R338). -/
theorem test_inc_dec_overflow :
    run 8 0x34 { small with cpu.f := { Flags.clear with c := true } }
      (fun t => t.memRead 0xC010 == 0x80 && t.cpu.f.pv && t.cpu.f.c && t.cpu.f.s) = true ∧
    run 24 0x8035DD small (fun t => t.memRead 0xC070 == 0x7F && t.cpu.f.pv && t.cpu.f.n && t.cpu.cycles == 23) = true := by decide

/-- `DAA` of 0x9A after an addition: 0x66 added, the result 0 with carry (44_general_control R360). -/
theorem test_daa :
    run 8 0x27 small (fun t => t.cpu.a == 0x00 && t.cpu.f.c && t.cpu.f.z && t.cpu.f.h) = true ∧
    run 8 0x27 { small with cpu.a := 0x0F, cpu.f := { Flags.clear with n := true, h := true } }
      (fun t => t.cpu.a == 0x09 && !t.cpu.f.c && !t.cpu.f.h) = true := by decide

/-- 0xC010 + 0xC010 = 0x18020; 0 - 1 - 1 = 0xFFFE (45_alu16 R391, R393). -/
theorem test_word_arithmetic :
    run 8 0x29 small (fun t => t.hl == 0x8020 && t.cpu.f.c && !t.cpu.f.h) = true ∧
    run 16 0x42ED { small with cpu := { small.cpu with h := 0, l := 0, b := 0, c := 1, f := { Flags.clear with c := true } } }
      (fun t => t.hl == 0xFFFE && t.cpu.f.c && t.cpu.f.h && t.cpu.f.s && !t.cpu.f.pv) = true := by decide

/-- `RLCA` keeps Z; `SLL` shifts 1 in (46_rotate_shift R421, R434). -/
theorem test_shifts :
    run 8 0x07 { small with cpu.f := { Flags.clear with z := true } } (fun t => t.cpu.a == 0x35 && t.cpu.f.c && t.cpu.f.z) = true ∧
    run 16 0x30CB small (fun t => t.cpu.b == 0x05 && !t.cpu.f.c && t.cpu.f.pv) = true := by decide

/-- `RLD` of A = 0x9A with 0x7F: A = 0x97, memory 0xFA; `RRD`: A = 0x9F, memory 0xA7 (46_rotate_shift R436, R437). -/
theorem test_rotate_digits :
    run 16 0x6FED small (fun t => t.cpu.a == 0x97 && t.memRead 0xC010 == 0xFA) = true ∧
    run 16 0x67ED small (fun t => t.cpu.a == 0x9F && t.memRead 0xC010 == 0xA7) = true := by decide

/-- `SET 0,(IX-0x80),B` copies; `BIT 7,(HL)` of 0x7F (47_bit R474, R462). -/
theorem test_bits :
    run 32 0xC080CBDD small (fun t => t.cpu.b == 0x81 && t.memRead 0xC070 == 0x81 && t.cpu.pc == 4) = true ∧
    run 16 0x7ECB small (fun t => t.cpu.f.z && t.cpu.f.h && t.cpu.cycles == 12) = true := by decide

/-- `LDIR` with BC left to go sets PC back; with BC = 1 it ends (42_exchange_block R287, R289). -/
theorem test_ldir :
    run 16 0xB0ED small (fun t => t.bc == 0x02BD && t.cpu.pc == 0 && t.cpu.f.pv && t.cpu.cycles == 21 && t.memRead 0xD0FF == 0x7F) =
      true ∧
    run 16 0xB0ED { small with cpu := { small.cpu with b := 0, c := 1 } }
      (fun t => t.bc == 0 && t.cpu.pc == 2 && !t.cpu.f.pv && t.cpu.cycles == 16 && t.de == 0xD100) = true := by decide

/-- `CPDR` stops on equal bytes although BC is not 0 (42_exchange_block R295). -/
theorem test_cpdr_found :
    run 16 0xB9ED { small with cpu.a := 0x7F } (fun t => t.cpu.f.z && t.cpu.f.pv && t.cpu.pc == 2 && t.hl == 0xC00F) = true := by decide

/-- `JR` backwards past 0 wraps; `DJNZ` with B = 1 falls through at 8 cycles (48_jump_call_return R483, R491). -/
theorem test_relative_jumps :
    run 16 0xFC18 small (fun t => t.cpu.pc == 0xFFFE && t.cpu.cycles == 12) = true ∧
    run 16 0xFC10 { small with cpu.b := 1 } (fun t => t.cpu.b == 0 && t.cpu.pc == 2 && t.cpu.cycles == 8) = true := by decide

/-- `CALL` pushes the address past itself, high byte at SP-1; a failed `CALL C` leaves SP (48_jump_call_return R492, R493). -/
theorem test_calls :
    run 24 0x8123CD { small with cpu.pc := 0x12FE }
      (fun t => t.cpu.pc == 0x8123 && t.cpu.sp == 0xDFEE && t.memRead 0xDFEF == 0x13 && t.memRead 0xDFEE == 0x01) = true ∧
    run 24 0x8123DC small (fun t => t.cpu.pc == 3 && t.cpu.sp == 0xDFF0 && t.cpu.cycles == 10) = true := by decide

/-- `EX (SP),HL` (42_exchange_block R284); `PUSH` into ROM is discarded with one event a byte (20_memory R95). -/
theorem test_stack :
    run 8 0xE3 { small with mapper := small.mapper.setPageByte 0 0x1FF1 0x12 }
      (fun t => t.hl == 0x1200 && t.memRead 0xDFF0 == 0x10 && t.memRead 0xDFF1 == 0xC0) = true ∧
    run 8 0xC5 { small with cpu.sp := 0x4000 }
      (fun t => t.cpu.sp == 0x3FFE && t.events == [.invalidWrite 0x3FFE 0xBE, .invalidWrite 0x3FFF 0x02]) = true := by decide

/-- `LD A,I`: PV from IFF2 (40_load8 R218); R counts modulo 128 with bit 7 kept (10_state R30). -/
theorem test_interrupt_refresh :
    run 16 0x57ED { small with cpu.iff2 := true } (fun t => t.cpu.a == 0xC1 && t.cpu.f.pv && t.cpu.f.s) = true ∧
    run 8 0x00 { small with cpu.r := 0xFF } (fun t => t.cpu.r == 0x80) = true ∧
    run 16 0x4FED { small with cpu.r := 0x7E } (fun t => t.cpu.r == 0x9A) = true := by decide

/-- An ignored prefix takes one byte and 4 cycles, and defers an interrupt (30_encoding R152). -/
theorem test_ignored_prefix :
    run 16 0x00DD { small with cpu.nmiPending := true } (fun t => t.cpu.pc == 1 && t.cpu.cycles == 4 && t.cpu.nmiPending) = true := by
  decide

/-- NMI after an instruction (60_exceptions R611); a halted CPU wakes in interrupt mode 1 (R614, R651). -/
theorem test_interrupt_entry :
    run 8 0x00 { small with cpu.nmiPending := true, cpu.iff1 := true, cpu.iff2 := true }
      (fun t => t.cpu.pc == 0x0066 && !t.cpu.iff1 && t.cpu.iff2 && !t.cpu.nmiPending && t.cpu.cycles == 15) = true ∧
    answers (step { small with
        cpu := { small.cpu with halted := true, iff1 := true, iff2 := true, im := .im1 }
        vdp := { small.vdp with status.frameInt := true, reg := small.vdp.reg.set 1 0x20 } })
      (fun t => t.cpu.pc == 0x0038 && !t.cpu.halted && !t.cpu.iff1 && !t.cpu.iff2 && t.cpu.cycles == 17 && t.cpu.r == 2) = true := by
  decide

/-- Mode 2 reads its vector at `I:bus byte` (60_exceptions R615); mode 0 refuses a bus byte that is no RST (R613). -/
theorem test_interrupt_modes :
    answers (State.maskableEntry { small with mapper := (small.mapper.setPageByte 0 0x1FF 0x34).setPageByte 0 0x200 0x12, cpu.im := .im2 })
      (fun t => t.cpu.pc == 0x1234 && t.cpu.cycles == 19) = true ∧
    refuses (State.maskableEntry { small with cfg.intBusByte := 0x00 }) (.mode0BusByteNotRst 0x00) = true ∧
    answers (State.maskableEntry { small with cfg.intBusByte := 0xC7 }) (fun t => t.cpu.pc == 0x0000) = true := by decide

/-- `OUT` to the control port twice writes a VDP register; the sound port emits its event (60_exceptions R643, R646). -/
theorem test_out :
    run 16 0xBFD3 { small with cpu.a := 0x81, vdp := { small.vdp with firstWrite := true, codeAddr := 0x0020 } }
      (fun t => t.vdp.reg[1] == 0x20 && !t.vdp.firstWrite && t.events == [.vdpRegisterWrite 1 0x20]) = true ∧
    run 16 0x7FD3 small (fun t => t.events == [.soundWrite 0 0x9A]) = true := by decide

/-- `IN A,(0xBF)` reads the status and clears it; `INI` from the V counter (60_exceptions R645, R648; 49_io R524). -/
theorem test_in :
    run 16 0xBFDB { small with vdp := { small.vdp with status := ⟨true, false, true, true⟩ } }
      (fun t => t.cpu.a == 0xA0 && t.vdp.status == ⟨false, false, false, false⟩) = true ∧
    run 16 0xA2ED { small with cpu.c := 0x7E, vdp := { small.vdp with v := 219 } }
      (fun t => t.memRead 0xC010 == 213 && t.cpu.b == 1 && t.hl == 0xC011 && !t.cpu.f.z && t.cpu.f.n) = true := by decide

/-- A Sega control write maps cartridge RAM (20_memory R102); a Codemasters one selects a bank (R112). -/
theorem test_control_writes :
    answers (.next (small.memWrite 0xFFFC 0x0C)) (fun t => t.mapper.slot == #v[1, 2, 3, 4, 9, 10, 0, 0] && t.mapper.writable == 0xF0 &&
      t.mapper.pages.length == 11 && t.mapper.bank == .sega ⟨0x0C, 0x00, 0x01, 0x02, [none, some 9]⟩) = true ∧
    answers (.next (smallCm.memWrite 0x8000 0x03)) (fun t => t.mapper.slot == #v[1, 2, 3, 4, 7, 8, 0, 0]) = true := by decide

/-- The line after the active region raises the frame interrupt; the counter underflows on a line up to it (60_exceptions R630). -/
theorem test_line_step :
    (State.vdpLineStep { small with vdp := { small.vdp with v := 192 } }).vdp.status = ⟨true, false, false, true⟩ ∧
    (State.vdpLineStep { small with vdp := { small.vdp with v := 193 } }).vdp.status = ⟨false, false, false, false⟩ := by decide

/-- `RETI` from an unacknowledged handler: the interrupt is accepted at the boundary of the return itself and pushes the address just
popped (vector INT-11; 60_exceptions R617; log 27). -/
theorem test_reti_reentered :
    run 16 0x4DED { small with
        cpu := { small.cpu with sp := 0xC010, iff1 := true, iff2 := true, im := .im1 }
        vdp := { small.vdp with status.frameInt := true, reg := small.vdp.reg.set 1 0x20 } }
      (fun t => t.cpu.pc == 0x0038 && t.cpu.sp == 0xC010 && t.memRead16 0xC010 == 0x007F && !t.cpu.iff1 && !t.cpu.iff2 &&
        t.cpu.cycles == 27) = true := by decide

/-- A prefix row runs its entry: `CB` before `SET 0,B` at PC (30_encoding R141). -/
theorem test_prefix_row :
    answers (exec .prefixCb (small.placeByte 0 0xC0)) (fun t => t.cpu.b == 0x03 && t.cpu.pc == 1 && t.cpu.r == 1) = true ∧
    answers (exec .prefixFdCb ((small.placeByte 0 0x80).placeByte 1 0x46)) (fun t => t.cpu.pc == 2 && t.cpu.r == 0) = true := by decide

/-- With one cartridge RAM bank, selecting bank 1 maps none and bank 0 the first page behind the ROM (10_state R44; log 25). -/
theorem test_one_ram_bank :
    (({ small.mapper with bank := .sega ⟨0x00, 0x00, 0x01, 0x02, [none]⟩ } : Mapper).write false 0xFFFC 0x0C).1.slot =
        #v[1, 2, 3, 4, 5, 6, 0, 0] ∧
      (({ small.mapper with bank := .sega ⟨0x00, 0x00, 0x01, 0x02, [none]⟩ } : Mapper).write false 0xFFFC 0x08).1.slot =
        #v[1, 2, 3, 4, 9, 10, 0, 0] := by decide

/-- One, two and four pages are powers of two, three are flagged (20_memory R96). -/
theorem test_construction_events :
    constructionEvents 1 = [] ∧ constructionEvents 2 = [] ∧ constructionEvents 4 = [] ∧
      constructionEvents 3 = [.nonPowerOfTwoBanks 3] := by decide

/-- The construction error carries the length (60_exceptions R600). -/
theorem test_rom_size :
    newSession {} .sega [] = .error (.invalidRomSize 0) ∧ newSession {} .codemasters [0x00, 0x01] = .error (.invalidRomSize 2) := by decide

/-! ### Witnesses: the hypotheses of every statement are met, clause by clause at the ends of their ranges -/

/-- The mapper of `small` meets its invariants. -/
theorem small_mapper_inv : small.mapper.Inv where
  rom := by decide
  length := by decide
  bank := Bank.ok_of_unallocated (by decide) (by decide)
  table := by decide
  pages := by decide

/-- `small` meets the invariants of the session. -/
theorem small_inv : small.Inv := ⟨small_mapper_inv, by decide, ⟨by decide, by decide⟩⟩

/-- The mapper of `smallCm` meets its invariants. -/
theorem smallCm_mapper_inv : smallCm.mapper.Inv where
  rom := by decide
  length := by decide
  bank := Bank.ok_of_unallocated (by decide) (by decide)
  table := by decide
  pages := by decide

/-- The next state of an outcome, given that there is one. -/
theorem next_of_answers {o : Out} {p : State → Bool} (h : answers o p = true) : ∃ t, o = .next t := by
  cases o with
  | next t => exact ⟨t, rfl⟩
  | fault r => cases h
  | refused r => cases h

/-- DecodeOfEncode: an instruction with operands, a NONI with a byte outside `IDX_OPS` after it, a prefix row. -/
theorem witness_DecodeOfEncode :
    Instr.wf (.setMemIxR 7 0xFF .a) = true ∧ isPrefixRow (.setMemIxR 7 0xFF .a) = false ∧ Instr.wf .noniDd = true ∧
      (∃ b more, [0x76, 0x00] = b :: more ∧ b ∉ idxOps) ∧ isPrefixRow .prefixFdCb = true :=
  ⟨by decide, by decide, by decide, ⟨0x76, [0x00], rfl, by decide⟩, by decide⟩

/-- NoniExactlyOutsideIdxOps: a byte outside and a byte inside the list. -/
theorem witness_NoniExactlyOutsideIdxOps : (0x76 : Byte) ∉ idxOps ∧ (0x77 : Byte) ∈ idxOps := by decide

/-- StepRunsDecodedInstruction: the CPU one cycle behind its target, the byte at PC a `NOP`. -/
theorem witness_StepRunsDecodedInstruction :
    (227 : Nat) < 342 * 2 / 3 ∧ small.cpu.halted = false ∧ small.vdp.vdpCycles = 342 ∧
      decode [small.memRead 0, small.memRead 1, small.memRead 2, small.memRead 3] = .ok (.nop, [0, 0, 0]) := by decide

/-- StepTakesTurns: at the target, one cycle behind it, halted. -/
theorem witness_StepTakesTurns :
    State.cpuTurn { small with cpu.cycles := 228 } = false ∧ State.cpuTurn { small with cpu.cycles := 227 } = true ∧
      ({ small with cpu.halted := true } : State).cpu.halted = true := by decide

/-- InterruptPriority: the inhibit, an NMI, an asserted line under its enable, none. -/
theorem witness_InterruptPriority :
    ({ small with cpu.intInhibit := true } : State).cpu.intInhibit = true ∧ small.cpu.intInhibit = false ∧
      ({ small with cpu.nmiPending := true } : State).cpu.nmiPending = true ∧ small.cpu.nmiPending = false ∧
      Vdp.intLine { small.vdp with status.lineInt := true, reg := small.vdp.reg.set 0 0x10 } = true ∧ small.vdp.intLine = false := by
  decide

/-- MaskableEntryByMode: the lowest and the highest RST, the bytes next to the lowest and one below 0xC0 that are none, and each mode. -/
theorem witness_MaskableEntryByMode :
    (0xC7 : Byte).toNat % 8 = 7 ∧ 192 ≤ (0xC7 : Byte).toNat ∧ (0xFF : Byte).toNat % 8 = 7 ∧ 192 ≤ (0xFF : Byte).toNat ∧
      ¬((0xC8 : Byte).toNat % 8 = 7 ∧ 192 ≤ (0xC8 : Byte).toNat) ∧ ¬((0xBF : Byte).toNat % 8 = 7 ∧ 192 ≤ (0xBF : Byte).toNat) ∧
      small.cpu.im = .im0 ∧ ({ small with cpu.im := .im1 } : State).cpu.im = .im1 ∧
      ({ small with cpu.im := .im2 } : State).cpu.im = .im2 := by decide

/-- NoInterruptRightAfterEi: `EI` at PC in RAM. -/
theorem witness_NoInterruptRightAfterEi :
    State.cpuTurn { small with mapper := small.mapper.setPageByte 0 0 0xFB, cpu.pc := 0xC000 } = true ∧
      State.memRead { small with mapper := small.mapper.setPageByte 0 0 0xFB } 0xC000 = 0xFB := by decide

/-- StepKeepsInvariant: a session that meets it and steps. -/
theorem witness_StepKeepsInvariant : small.Inv ∧ ∃ t, step small = .next t :=
  ⟨small_inv, next_of_answers (p := fun t => t.cpu.pc == 1) (by decide)⟩

/-- NewSessionState: no byte, one byte short of a page; ROMs of one page and of three, a power of two and none. -/
theorem witness_NewSessionState :
    ([] : List Byte).length = 0 ∧ (List.replicate 8191 (0x00 : Byte)).length % 8192 ≠ 0 ∧
      (List.replicate 8192 (0x00 : Byte)).length ≠ 0 ∧ (List.replicate 8192 (0x00 : Byte)).length % 8192 = 0 ∧
      (List.replicate 24576 (0x00 : Byte)).length % 8192 = 0 ∧ (∃ k, 8192 / 8192 = 2 ^ k) ∧ ¬∃ k, 24576 / 8192 = 2 ^ k := by
  refine ⟨rfl, ?_, ?_, ?_, ?_, ⟨0, rfl⟩, ?_⟩
  · rw [List.length_replicate]; decide
  · rw [List.length_replicate]; decide
  · rw [List.length_replicate]
  · rw [List.length_replicate]
  · rintro ⟨k, hk⟩
    cases k with
    | zero => cases hk
    | succ k => rw [Nat.pow_succ] at hk; omega

/-- RomNeverChanges: the first and the last ROM page. -/
theorem witness_RomNeverChanges : small.Inv ∧ (∃ t, step small = .next t) ∧ 1 ≤ 1 ∧ 8 ≤ small.mapper.romPages :=
  ⟨small_inv, witness_StepKeepsInvariant.2, by decide, by decide⟩

/-- SlotTableAlwaysValid: a mapper that meets the invariants, a writable slot; the first unpinned address, and Codemasters. -/
theorem witness_SlotTableAlwaysValid :
    small.mapper.Inv ∧ small.mapper.writable.getLsbD 6 = true ∧ 0x400 ≤ (0x400 : Word).toNat ∧
      ∃ r, smallCm.mapper.bank = .codemasters r := ⟨small_mapper_inv, by decide, by decide, _, rfl⟩

/-- BootWindowIsPinned: the last address of the window. -/
theorem witness_BootWindowIsPinned :
    small.Inv ∧ small.mapper.bank = .sega SegaBank.reset ∧ (0x3FF : Word).toNat < 0x400 ∧ ∃ t, step small = .next t :=
  ⟨small_inv, by decide, by decide, witness_StepKeepsInvariant.2⟩

/-- OnlyMode0BusByteStops: a session that goes on and one that is refused. -/
theorem witness_OnlyMode0BusByteStops :
    (small.cfg.intBusByte.toNat % 8 = 7 ∧ 192 ≤ small.cfg.intBusByte.toNat) ∧
      refuses (step { small with
        cfg.intBusByte := 0x00
        cpu.iff1 := true
        vdp := { small.vdp with status.frameInt := true, reg := small.vdp.reg.set 1 0x20 } }) (.mode0BusByteNotRst 0x00) = true := by
  decide

/-- SystemRegisterWriters: steps that change I, bit 7 of R, the mode and the shadows. -/
theorem witness_SystemRegisterWriters :
    run 16 0x47ED small (fun t => t.cpu.i != small.cpu.i) = true ∧
      run 16 0x4FED small (fun t => t.cpu.r.getLsbD 7 != small.cpu.r.getLsbD 7) = true ∧
      run 16 0x56ED small (fun t => t.cpu.im != small.cpu.im) = true ∧ run 16 0x4EED { small with cpu.im := .im1 }
        (fun t => t.cpu.im == .im0) = true ∧
      run 8 0x08 small (fun t => t.cpu.a' != small.cpu.a') = true ∧ run 8 0xD9 small (fun t => t.cpu.bc' != small.cpu.bc') = true := by
  decide

/-- CpuStepCostBounds: the cheapest step and the dearest. -/
theorem witness_CpuStepCostBounds :
    standardCosts small.cfg ∧ answers small.cpuStep (fun t => t.cpu.cycles == 4) = true ∧
      answers (State.cpuStep { small with
          cpu := { small.cpu with im := .im2, iff1 := true, pc := 0xC000 }
          mapper := (small.mapper.setPageByte 0 0 0xDD).setPageByte 0 1 0x34
          vdp := { small.vdp with status.frameInt := true, reg := small.vdp.reg.set 1 0x20 } })
        (fun t => t.cpu.cycles == 42) = true := ⟨⟨rfl, rfl, rfl, rfl⟩, by decide, by decide⟩

/-- EventsAreObservational: a step that emits, and a refused one. -/
theorem witness_EventsAreObservational :
    run 16 0x7FD3 { small with events := [.soundWrite 1 2] } (fun t => t.events == [.soundWrite 0 0x9A, .soundWrite 1 2]) = true ∧
      refuses (step { small with
        cfg.intBusByte := 0xBF
        cpu.iff1 := true
        vdp := { small.vdp with status.frameInt := true, reg := small.vdp.reg.set 1 0x20 } }) (.mode0BusByteNotRst 0xBF) = true := by
  decide

/-- LineStepRule: the last line that counts down, with the counter at 0 and not, the first that reloads, the last of the frame. -/
theorem witness_LineStepRule :
    ({ small.vdp with v := 192 } : Vdp).v ≤ small.cfg.activeLines ∧ small.vdp.lineCounter = 0 ∧
      ({ small.vdp with lineCounter := 0xFF } : Vdp).lineCounter ≠ 0 ∧ small.cfg.activeLines < ({ small.vdp with v := 193 } : Vdp).v ∧
      (261 + 1) % small.cfg.tv.totalLines = 0 ∧ (260 + 1) % small.cfg.tv.totalLines ≠ 0 ∧ small.cfg.renderMode = .frame := by decide

/-- FrameOfLineSteps: the last line, and an active region inside the frame. -/
theorem witness_FrameOfLineSteps : 261 < small.cfg.tv.totalLines ∧ small.cfg.activeLines < small.cfg.tv.totalLines := by decide

/-- RunFrameCompletes: a session with an RST on the bus. -/
theorem witness_RunFrameCompletes : small.Inv ∧ small.cfg.intBusByte.toNat % 8 = 7 ∧ 192 ≤ small.cfg.intBusByte.toNat :=
  ⟨small_inv, by decide, by decide⟩

/-- CatchUpOvershoot: a session 41 cycles past its target, with lines of 66 cycles, so that one line takes one instruction. -/
theorem witness_CatchUpOvershoot :
    standardCosts { small.cfg with vdpCyclesPerLine := 66 } ∧ (228 + 41 : Nat) < 342 * 2 / 3 + 42 ∧
      answers (State.runLine { small with cfg.vdpCyclesPerLine := 66, cpu.cycles := 228 + 41 }) (fun t => t.cpu.cycles == 273) = true :=
  ⟨⟨rfl, rfl, rfl, rfl⟩, by decide, by decide⟩

/-- VdpControlPort: the ends of the three code ranges. -/
theorem witness_VdpControlPort :
    Vdp.reset.firstWrite = false ∧ ({ Vdp.reset with firstWrite := true } : Vdp).firstWrite = true ∧ (63 : Byte).toNat < 64 ∧
      (64 ≤ (64 : Byte).toNat ∧ (64 : Byte).toNat / 64 ≠ 2) ∧ (128 : Byte).toNat / 64 = 2 ∧ (191 : Byte).toNat / 64 = 2 ∧
      (192 : Byte).toNat / 64 ≠ 2 := by decide

/-- VdpDataAndStatusPorts: the addresses on both sides of code 3, and a canonical VRAM. -/
theorem witness_VdpDataAndStatusPorts :
    (0xC000 : Word).toNat / 0x4000 = 3 ∧ (0xBFFF : Word).toNat / 0x4000 ≠ 3 ∧ Memory.wf vramSize small.vdp.vram = true := by decide

/-- IoReadMap: the ports at the ends of each range, on a line in both systems' ranges. -/
theorem witness_IoReadMap :
    small.vdp.v < small.cfg.tv.totalLines ∧ (0x3F : Word).toNat / 64 % 4 = 0 ∧
      ((0x40 : Word).toNat / 64 % 4 = 1 ∧ (0x40 : Word).toNat % 2 = 0) ∧ ((0x7F : Word).toNat / 64 % 4 = 1 ∧ (0x7F : Word).toNat % 2 = 1) ∧
      ((0x80 : Word).toNat / 64 % 4 = 2 ∧ (0x80 : Word).toNat % 2 = 0) ∧ ((0xBF : Word).toNat / 64 % 4 = 2 ∧ (0xBF : Word).toNat % 2 = 1) ∧
      (0xC0 : Word).toNat / 64 % 4 = 3 ∧ small.cfg.tv = .ntsc ∧ ({ small.cfg with tv := .pal } : Config).tv = .pal := by decide

/-- IoWriteMap: a port of each range, the high byte ignored. -/
theorem witness_IoWriteMap :
    (0x123F : Word).toNat / 64 % 4 = 0 ∧ (0x40 : Word).toNat / 64 % 4 = 1 ∧
      ((0xFFBE : Word).toNat / 64 % 4 = 2 ∧ (0xFFBE : Word).toNat % 2 = 0) ∧ ((0xBF : Word).toNat / 64 % 4 = 2 ∧ (0xBF : Word).toNat % 2 = 1) ∧
      (0xFF : Word).toNat / 64 % 4 = 3 := by decide

/-- OrdinaryWriteRule: the last address below the control registers, writable, and the last below RAM, not; on both variants; a physical
byte next to the one stored to. -/
theorem witness_OrdinaryWriteRule :
    (small.mapper.Inv ∧ small.mapper.isControl 0xFFFB = false ∧ small.mapper.writable.getLsbD ((0xFFFB : Word).toNat / 8192) = true) ∧
      (0, 0x1FFA) ≠ (small.mapper.slot[slotOf 0xFFFB], (0xFFFB : Word).toNat % 8192) ∧
      (small.mapper.isControl 0xBFFF = false ∧ small.mapper.writable.getLsbD ((0xBFFF : Word).toNat / 8192) = false) ∧
      (smallCm.mapper.Inv ∧ smallCm.mapper.isControl 0x8001 = false ∧ smallCm.mapper.isControl 0xFFFF = false) :=
  ⟨⟨small_mapper_inv, by decide, by decide⟩, by decide, ⟨by decide, by decide⟩, smallCm_mapper_inv, by decide, by decide⟩

/-- SegaControlWriteRule: the first and the last control address; a write that allocates and one that does not; one whose byte also
reaches RAM and one whose byte does not. -/
theorem witness_SegaControlWriteRule :
    small.mapper.bank = .sega SegaBank.reset ∧ 0xFFFC ≤ (0xFFFC : Word).toNat ∧ 0xFFFC ≤ (0xFFFF : Word).toNat ∧
      (small.mapper.write false 0xFFFC 0x08).1.pages.length = 11 ∧ (small.mapper.write false 0xFFFF 0x08).1.pages.length = 9 ∧
      small.mapper.Inv ∧ (small.mapper.write true 0xFFFC 0x08).1.read 0xFFFC = 0x08 ∧
      (small.mapper.write false 0xFFFC 0x08).1.read 0xFFFC = 0x00 :=
  ⟨by decide, by decide, by decide, by decide, by decide, small_mapper_inv, by decide, by decide⟩

/-- CodemastersControlWriteRule: the first and the last control address; a write that allocates. -/
theorem witness_CodemastersControlWriteRule :
    smallCm.mapper.bank = .codemasters CodemastersBank.reset ∧ 0 < 3 ∧ 2 < 3 ∧
      (∃ m' ev, smallCm.mapper.write true (trunc16 (0x4000 * 0)) 0x80 = (m', ev)) ∧
      (smallCm.mapper.write false (trunc16 0x4000) 0x80).1.pages.length = 10 ∧
      (smallCm.mapper.write false (trunc16 0x8000) 0x80).1.pages.length = 9 :=
  ⟨by decide, by decide, by decide, ⟨_, _, rfl⟩, by decide, by decide⟩

/-- ControlWriteIdempotent: control addresses of both variants, writes that leave the registers as they are, one through to a byte that is
there already. -/
theorem witness_ControlWriteIdempotent :
    small.mapper.isControl 0xFFFC = true ∧ smallCm.mapper.isControl 0x0000 = true ∧ small.mapper.Inv ∧
      (small.mapper.write false 0xFFFE 0x01).1.bank = small.mapper.bank ∧
      (small.mapper.write true 0xFFFC 0x00).1.bank = small.mapper.bank ∧ small.mapper.read 0xFFFC = 0x00 ∧
      (smallCm.mapper.write true 0x8000 0x00).1.bank = smallCm.mapper.bank ∧ smallCm.mapper.Inv :=
  ⟨by decide, by decide, small_mapper_inv, by decide, by decide, by decide, by decide, smallCm_mapper_inv⟩

/-- CartridgeRamPersists: on each variant cartridge RAM mapped, the ends of its window, a switch away. -/
theorem witness_CartridgeRamPersists :
    (small.mapper.write false 0xFFFC 0x08).1.Inv ∧
      (small.mapper.write false 0xFFFC 0x08).1.bank = .sega ⟨0x08, 0x00, 0x01, 0x02, [some 9, none]⟩ ∧ (0x08 : Byte).toNat / 8 % 2 = 1 ∧
      (0x08 : Byte).toNat / 4 % 2 < [some 9, none].length ∧ 0x8000 ≤ (0x8000 : Word).toNat ∧
      (0xBFFF : Word).toNat < 0xC000 ∧ 0xFFFC ≤ ((0xFFFC : Word), (0x00 : Byte)).1.toNat ∧
      (smallCm.mapper.write false 0x4000 0x81).1.Inv ∧
      (smallCm.mapper.write false 0x4000 0x81).1.bank = .codemasters ⟨0x00, 0x81, 0x00, [some 9]⟩ ∧ (0x81 : Byte).toNat / 128 = 1 ∧
      0 < [some 9].length ∧ 0xA000 ≤ (0xA000 : Word).toNat ∧ ((0x4000 : Word), (0x01 : Byte)).1 ∈ [0x0000, 0x4000, (0x8000 : Word)] :=
  ⟨small_mapper_inv.write false 0xFFFC 0x08, by decide, by decide, by decide, by decide, by decide, by decide,
    smallCm_mapper_inv.write false 0x4000 0x81, by decide, by decide, by decide, by decide, by decide⟩

/-- EveryInstructionCompletes, InstructionFrame, InstructionStores, UnstoredBytesUnchanged: an instruction that stores to an ordinary
address; a prefix row for PrefixRowRunsItsEntry. -/
theorem witness_everyInstruction :
    isPrefixRow (.ldMemHlR .b) = false ∧ answers (exec (.ldMemHlR .b) small) (fun t => t.memRead 0xC010 == 0x02) = true ∧
      (∀ w ∈ storesOf small (.ldMemHlR .b), small.mapper.isControl w.1 = false) ∧
      (∀ w ∈ storesOf small (.ldMemHlR .b), small.mapper.storeTarget w.1 ≠ some (small.mapper.resolve 0xC011)) ∧
      isPrefixRow .prefixCb = true ∧ isPrefixRow .prefixFdCb = true := by
  rw [show storesOf small (.ldMemHlR .b) = [(0xC010, 0x02)] from rfl]
  refine ⟨by decide, by decide, ?_, ?_, by decide, by decide⟩ <;> intro w hw <;> obtain rfl := List.mem_singleton.mp hw <;> decide

/-- ByteLoads, StoresWriteTheirBytes, WordLoads, PushAndPop: a form of each, and stores to ordinary writable memory. -/
theorem witness_loadsAndStores :
    loadForm small (.ldRMemIx .a 0x80) = some (.a, 0x80) ∧ (Half.lo ≠ Half.hi ∧ RegP.b ≠ RegP.hi ∧ Reg8.b ≠ Reg8.a) ∧
      storeForm small (.ldMemHlN 0x12) = some (0xC010, 0x12) ∧ small.mapper.isControl 0xC010 = false ∧
      small.mapper.writable.getLsbD (slotOf 0xC010) = true ∧ storeWordForm small (.ldMemNnHl 0xFFFA) = some (0xFFFA, 0xC010) ∧
      small.mapper.isControl 0xFFFA = false ∧ small.mapper.isControl (0xFFFA + 1) = false ∧
      small.mapper.writable.getLsbD (slotOf 0xFFFA) = true ∧ small.mapper.writable.getLsbD (slotOf (0xFFFA + 1)) = true ∧
      loadWordForm small .ldSpHl = some (.sp, 0xC010) ∧ (Reg16.bc ≠ Reg16.sp) ∧ pushForm small .pushIx = some 0xC0F0 ∧
      small.mapper.isControl (small.cpu.sp - 1) = false ∧ small.mapper.isControl (small.cpu.sp - 2) = false ∧
      small.mapper.writable.getLsbD (slotOf (small.cpu.sp - 1)) = true ∧
      small.mapper.writable.getLsbD (slotOf (small.cpu.sp - 2)) = true := by decide

/-- BlockTransfers, BlockSearches, BlockInputAndOutput: a repeating form of each, with more to do and at its end. -/
theorem witness_blocks :
    (Instr.lddr, (-1 : Int), true) ∈ [(Instr.ldi, (1 : Int), false), (.ldd, -1, false), (.ldir, 1, true), (.lddr, -1, true)] ∧
      (Instr.cpir, (1 : Int), true) ∈ [(Instr.cpi, (1 : Int), false), (.cpd, -1, false), (.cpir, 1, true), (.cpdr, -1, true)] ∧
      (Instr.inir, (1 : Int), true) ∈ [(Instr.ini, (1 : Int), false), (.ind, -1, false), (.inir, 1, true), (.indr, -1, true)] ∧
      (Instr.otdr, (-1 : Int), true) ∈ [(Instr.outi, (1 : Int), false), (.outd, -1, false), (.otir, 1, true), (.otdr, -1, true)] ∧
      small.bc ≠ 1 ∧ State.bc { small with cpu := { small.cpu with b := 0, c := 1 } } = 1 ∧ small.cpu.a ≠ small.memRead small.hl := by
  decide

/-- AdditionAndSubtraction, LogicalOperations: each operation in some form. -/
theorem witness_aluForms :
    aluForm small (.addAN 0xFF) = some (.add, 0xFF) ∧ aluForm small .adcAMemHl = some (.adc, 0x7F) ∧
      aluForm small (.subIxHalf .lo) = some (.sub, 0xF0) ∧ aluForm small (.sbcAMemIx 0x80) = some (.sbc, 0x80) ∧
      aluForm small (.cpR .b) = some (.cp, 0x02) ∧ aluForm small (.andN 0x00) = some (.and, 0x00) ∧
      aluForm small (.orIyHalf .hi) = some (.or, 0xDF) ∧ aluForm small (.xorMemIy 0x00) = some (.xor, 0x00) := by decide

/-- IncrementAndDecrement: both directions. -/
theorem witness_IncrementAndDecrement :
    incDecForm small .incMemHl = some (true, 0xC010) ∧ incDecForm small (.decMemIx 0x80) = some (false, 0xC070) := by decide

/-- AccumulatorAdjustments: `DAA` after an addition and after a subtraction; a mirror of `NEG`. -/
theorem witness_AccumulatorAdjustments :
    small.cpu.f.n = false ∧ ({ small with cpu.f := { Flags.clear with n := true } } : State).cpu.f.n = true ∧
      Instr.negMirror 7 ∈ [Instr.neg, .negMirror 7] := by decide

/-- RegisterShifts, MemoryShifts, BitOperations: a form of each, with and without a register copy. -/
theorem witness_shiftsAndBits :
    (Instr.rra, ShiftOp.rr) ∈ [(Instr.rlca, ShiftOp.rlc), (.rla, .rl), (.rrca, .rrc), (.rra, .rr)] ∧
      shiftRegForm (.sllR .a) = some (.sll, .a) ∧ shiftMemForm small .sraMemHl = some (.sra, 0xC010, none) ∧
      shiftMemForm small (.rlMemIxR 0x80 .h) = some (.rl, 0xC070, some .h) ∧ bitForm small (.bitMemIxZ 7 0x80 .b) = some (7, 0x80) ∧
      setResForm small (.setMemHl 0) = some (true, 0, 0xC010, none) ∧
      setResForm small (.resMemIxR 7 0x80 .a) = some (false, 7, 0xC070, some .a) := by decide

/-- Jumps, CallsAndReturns: a relative jump, conditions that hold and fail, an RST target, each policy of `RETI`. -/
theorem witness_jumpsAndCalls :
    (Instr.jrC 0x80, small.cpu.f.c) ∈ [(Instr.jrNz 0x80, !small.cpu.f.z), (.jrZ 0x80, small.cpu.f.z), (.jrNc 0x80, !small.cpu.f.c),
        (.jrC 0x80, small.cpu.f.c)] ∧
      condTrue small.cpu.f .nz = true ∧ condTrue small.cpu.f .m = false ∧ (0x38 : Word).toNat = 8 * (7 : BitVec 3).toNat ∧
      Instr.retCc .m ∈ [Instr.callCcNn .m 0x1234, .retCc .m] ∧ small.cfg.retiIffPolicy = .unchanged ∧
      ({ small.cfg with retiIffPolicy := .copyIff2 } : Config).retiIffPolicy = .copyIff2 ∧
      ({ small.cfg with retiIffPolicy := .set } : Config).retiIffPolicy = .set := by decide

end Sys2Proof.Tests
end

section
/-! Frames: how the parts a state change touches add up, and the parts each named update of the state touches (10_state R27). -/

namespace Sys2Proof.Machine

theorem changesOnly.refl (s : State) : changesOnly s s [] := by
  intro p _
  cases p <;> simp [Part.same]

theorem Part.same_trans {p : Part} {s u w : State} (h : p.same s u) (k : p.same u w) : p.same s w := by
  cases p <;> simp_all [Part.same]

/-- Two changes after each other touch what either touches. -/
theorem changesOnly.trans {s u w : State} {ps qs : List Part} (h : changesOnly s u ps) (k : changesOnly u w qs) :
    changesOnly s w (qs ++ ps) := fun p hp =>
  Part.same_trans (h p fun hm => hp (List.mem_append_right _ hm)) (k p fun hm => hp (List.mem_append_left _ hm))

theorem changesOnly.mono {s u : State} {ps qs : List Part} (h : changesOnly s u ps) (hsub : ps ⊆ qs) : changesOnly s u qs :=
  fun p hp => h p fun hm => hp (hsub hm)

theorem addCycles_frame (s : State) (n : Nat) : changesOnly s (s.addCycles n) [.cycles] := by
  intro p hp; cases p <;> simp_all [Part.same]

theorem setPc_frame (s : State) (v : Word) : changesOnly s (s.setPc v) [.pc] := by
  intro p hp; cases p <;> simp_all [Part.same]

theorem setSp_frame (s : State) (v : Word) : changesOnly s (s.setSp v) [.sp] := by
  intro p hp; cases p <;> simp_all [Part.same]

theorem setBc_frame (s : State) (v : Word) : changesOnly s (s.setBc v) [.b, .c] := by
  intro p hp; cases p <;> simp_all [Part.same]

theorem setDe_frame (s : State) (v : Word) : changesOnly s (s.setDe v) [.d, .e] := by
  intro p hp; cases p <;> simp_all [Part.same]

theorem setHl_frame (s : State) (v : Word) : changesOnly s (s.setHl v) [.h, .l] := by
  intro p hp; cases p <;> simp_all [Part.same]

theorem setAf_frame (s : State) (v : Word) : changesOnly s (s.setAf v) (.a :: allFlags) := by
  intro p hp; cases p <;> simp_all [Part.same, allFlags]

theorem setIx_frame (s : State) (v : Word) : changesOnly s (s.setIx v) [.ix] := by
  intro p hp; cases p <;> simp_all [Part.same]

theorem setIy_frame (s : State) (v : Word) : changesOnly s (s.setIy v) [.iy] := by
  intro p hp; cases p <;> simp_all [Part.same]

theorem setR8_frame (s : State) (r : Reg8) (v : Byte) : changesOnly s (s.setR8 r v) [regPart r] := by
  intro p hp; cases r <;> cases p <;> simp_all [Part.same, regPart]

theorem setI_frame (s : State) (v : Byte) : changesOnly s { s with cpu.i := v } [.i] := by
  intro p hp; cases p <;> simp_all [Part.same]

theorem setR_frame (s : State) (v : Byte) : changesOnly s { s with cpu.r := v } [.r] := by
  intro p hp; cases p <;> simp_all [Part.same]

theorem setIff1_frame (s : State) (b : Bool) : changesOnly s { s with cpu.iff1 := b } [.iff1] := by
  intro p hp; cases p <;> simp_all [Part.same]

theorem setIff2_frame (s : State) (b : Bool) : changesOnly s { s with cpu.iff2 := b } [.iff2] := by
  intro p hp; cases p <;> simp_all [Part.same]

theorem setIm_frame (s : State) (m : IntMode) : changesOnly s { s with cpu.im := m } [.im] := by
  intro p hp; cases p <;> simp_all [Part.same]

theorem setHalted_frame (s : State) (b : Bool) : changesOnly s { s with cpu.halted := b } [.halted] := by
  intro p hp; cases p <;> simp_all [Part.same]

theorem setIntInhibit_frame (s : State) (b : Bool) : changesOnly s { s with cpu.intInhibit := b } [.intInhibit] := by
  intro p hp; cases p <;> simp_all [Part.same]

theorem setNmiPending_frame (s : State) (b : Bool) : changesOnly s { s with cpu.nmiPending := b } [.nmiPending] := by
  intro p hp; cases p <;> simp_all [Part.same]

theorem setShadowAf_frame (s : State) (a : Byte) (f : Flags) : changesOnly s { s with cpu.a' := a, cpu.f' := f } [.shadowAf] := by
  intro p hp; cases p <;> simp_all [Part.same]

theorem setShadowPairs_frame (s : State) (bc de hl : Word) :
    changesOnly s { s with cpu.bc' := bc, cpu.de' := de, cpu.hl' := hl } [.shadowBc, .shadowDe, .shadowHl] := by
  intro p hp; cases p <;> simp_all [Part.same]

theorem loadF_frame (s : State) (f : Flags) : changesOnly s (s.loadF f) allFlags := by
  intro p hp; cases p <;> simp_all [Part.same, allFlags]

/-- F written by a rule that keeps some of its bits (10_state R28): the draw counter and the other bits change. -/
theorem writeF_frame (s : State) (f : Flags) (kept : List Part) (hk : ∀ p ∈ kept, p.same s (s.writeF f)) :
    changesOnly s (s.writeF f) ((.draws :: allFlags).filter (· ∉ kept)) := by
  intro p hp
  by_cases hm : p ∈ kept
  · exact hk p hm
  · have : p ∉ .draws :: allFlags := fun ha => hp (List.mem_filter.mpr ⟨ha, decide_eq_true hm⟩)
    cases p <;> simp_all [Part.same, allFlags]

theorem memWrite_frame (s : State) (a : Word) (v : Byte) : changesOnly s (s.memWrite a v) storing := by
  intro p hp; cases p <;> simp_all [Part.same, storing]

theorem ioRead_frame (s : State) (port : Word) : changesOnly s (s.ioRead port).2 [.vdp, .draws] := by
  intro p hp; cases p <;> simp_all [Part.same]

theorem ioWrite_frame (s : State) (port : Word) (v : Byte) : changesOnly s (s.ioWrite port v) [.vdp, .events] := by
  intro p hp; cases p <;> simp_all [Part.same]

theorem vdpLineStep_changesOnly (s : State) : changesOnly s s.vdpLineStep [.vdp, .draws] := by
  rw [s.vdpLineStep_frame]
  intro p hp; cases p <;> simp_all [Part.same]

end Sys2Proof.Machine
end

section
/-! Two sessions in step: each register update, store, port access and line step made in both. What is true of every such move is true
of every instruction and of every step, and is proved by one induction over the moves. -/

namespace Sys2Proof.Machine

/-- The session with another event history (10_state R60). -/
def State.withEvents (s : State) (ev : List Event) : State := { s with events := ev }

/-- `u` and `u'` are reached from `s` and `s'` by the same moves. -/
inductive Together (s s' : State) : State → State → Prop where
  | start : Together s s' s s'
  /-- registers rewritten, the cycle count apart -/
  | regs {u u' : State} (g : Cpu → Cpu) (h : Together s s' u u') :
      Together s s' { u with cpu := { g u.cpu with cycles := u.cpu.cycles } }
        { u' with cpu := { g u'.cpu with cycles := u'.cpu.cycles } }
  | tick {u u' : State} (n : Nat) (h : Together s s' u u') : Together s s' (u.addCycles n) (u'.addCycles n)
  | draw {u u' : State} (h : Together s s' u u') :
      Together s s' { u with draws := u.draws + 1 } { u' with draws := u'.draws + 1 }
  | store {u u' : State} (a : Word) (v : Byte) (h : Together s s' u u') : Together s s' (u.memWrite a v) (u'.memWrite a v)
  | input {u u' : State} (port : Word) (h : Together s s' u u') : Together s s' (u.ioRead port).2 (u'.ioRead port).2
  | output {u u' : State} (port : Word) (v : Byte) (h : Together s s' u u') :
      Together s s' (u.ioWrite port v) (u'.ioWrite port v)
  | line {u u' : State} (h : Together s s' u u') : Together s s' u.vdpLineStep u'.vdpLineStep

theorem Together.trans {s s' u u' w w' : State} (h : Together s s' u u') (k : Together u u' w w') : Together s s' w w' := by
  induction k with
  | start => exact h
  | regs g _ ih => exact .regs g ih
  | tick n _ ih => exact .tick n ih
  | draw _ ih => exact .draw ih
  | store a v _ ih => exact .store a v ih
  | input port _ ih => exact .input port ih
  | output port v _ ih => exact .output port v ih
  | line _ ih => exact .line ih

/-! ### The event history -/

theorem ioRead_withEvents (s : State) (port : Word) (ev : List Event) :
    (s.withEvents ev).ioRead port = ((s.ioRead port).1, (s.ioRead port).2.withEvents ev) := by
  unfold State.ioRead
  split <;> rfl

theorem ioWrite_withEvents (s : State) (port : Word) (v : Byte) :
    ∃ new, (s.ioWrite port v).events = new ++ s.events ∧
      ∀ ev, (s.withEvents ev).ioWrite port v = (s.ioWrite port v).withEvents (new ++ ev) := by
  unfold State.ioWrite
  split
  · exact ⟨[], rfl, fun _ => rfl⟩
  · exact ⟨[_], rfl, fun _ => rfl⟩
  · exact ⟨[], rfl, fun _ => rfl⟩
  · exact ⟨_, rfl, fun _ => rfl⟩
  · exact ⟨[], rfl, fun _ => rfl⟩

theorem vdpLineStep_withEvents (s : State) (ev : List Event) : (s.withEvents ev).vdpLineStep = s.vdpLineStep.withEvents ev := by
  show (if hookInvoked s.cfg s.vdp.v then _ else _) = State.withEvents (if hookInvoked s.cfg s.vdp.v then _ else _) ev
  split <;> rfl

/-- Moves only add to the history, and what they add does not depend on it (10_state R60). -/
theorem Together.twin {s u u' : State} {ev : List Event} (h : Together s (s.withEvents ev) u u') :
    ∃ new, u.events = new ++ s.events ∧ u' = u.withEvents (new ++ ev) := by
  induction h with
  | start => exact ⟨[], rfl, rfl⟩
  | regs _ _ ih | tick _ _ ih | draw _ ih => obtain ⟨new, he, rfl⟩ := ih; exact ⟨new, he, rfl⟩
  | @store u _ a v _ ih =>
    obtain ⟨new, he, rfl⟩ := ih
    refine ⟨(u.mapper.write u.cfg.segaCtrlWriteThrough a v).2.reverse ++ new, by simp [he], ?_⟩
    rw [List.append_assoc]; rfl
  | input port _ ih =>
    obtain ⟨new, he, rfl⟩ := ih
    exact ⟨new, by simp [he], by rw [ioRead_withEvents]⟩
  | @output u _ port v _ ih =>
    obtain ⟨new, he, rfl⟩ := ih
    obtain ⟨new', he', hw⟩ := ioWrite_withEvents u port v
    exact ⟨new' ++ new, by simp [he, he'], by rw [hw, List.append_assoc]⟩
  | @line u _ _ ih =>
    obtain ⟨new, he, rfl⟩ := ih
    exact ⟨new, by rw [u.vdpLineStep_frame, ← he], vdpLineStep_withEvents u _⟩

/-! ### Counters -/

theorem Together.cycles_le {s s' u u' : State} (h : Together s s' u u') : s.cpu.cycles ≤ u.cpu.cycles := by
  induction h with
  | start => exact Nat.le_refl _
  | regs _ _ ih | draw _ ih | store _ _ _ ih => exact ih
  | tick n _ ih => exact Nat.le_add_right_of_le ih
  | input port _ ih => rwa [ioRead_cpu]
  | output port v _ ih => rwa [ioWrite_cpu]
  | @line u _ _ ih => rwa [u.vdpLineStep_frame]

theorem ioWrite_vdp_h (s : State) (port : Word) (v : Byte) : (s.ioWrite port v).vdp.h = s.vdp.h := by
  unfold State.ioWrite
  split <;> simp

theorem vdpLineStep_vdp_h (s : State) : s.vdpLineStep.vdp.h = s.vdp.h := by
  have hl : (s.vdp.lineStep s.cfg).h = s.vdp.h := by
    unfold Vdp.lineStep Vdp.lineCounterStep Vdp.frameIntStep Vdp.advanceLine
    dsimp only
    split_ifs <;> rfl
  unfold State.vdpLineStep
  dsimp only
  split <;> exact hl

/-- No move drives the horizontal counter (10_state R53; log 19). -/
theorem Together.vdp_h {s s' u u' : State} (h : Together s s' u u') : u.vdp.h = s.vdp.h := by
  induction h with
  | start => rfl
  | regs _ _ ih | tick _ _ ih | draw _ ih | store _ _ _ ih => exact ih
  | input port _ ih => rw [ioRead_vdp_h, ih]
  | output port v _ ih => rw [ioWrite_vdp_h, ih]
  | line _ ih => rw [vdpLineStep_vdp_h, ih]

/-! ### The invariants -/

theorem ioRead_vdp_inv {s : State} (h : s.vdp.Inv s.cfg) (port : Word) : (s.ioRead port).2.vdp.Inv s.cfg :=
  ⟨by rw [ioRead_vdp_v]; exact h.v, by rw [ioRead_vdp_vram]; exact h.vram⟩

theorem ioWrite_vdp_inv {s : State} (h : s.vdp.Inv s.cfg) (port : Word) (v : Byte) : (s.ioWrite port v).vdp.Inv s.cfg := by
  unfold State.ioWrite
  split
  · exact h
  · exact h
  · exact ⟨by rw [Vdp.dataWrite_v]; exact h.v, Vdp.dataWrite_vram_wf h.vram v⟩
  · exact ⟨by simpa using h.v, by simpa using h.vram⟩
  · exact h

theorem lineStep_inv {cfg : Config} {d : Vdp} (h : d.Inv cfg) : (d.lineStep cfg).Inv cfg := by
  have hpos : 0 < cfg.tv.totalLines := Nat.zero_lt_of_lt h.v
  refine ⟨Nat.mod_lt _ hpos, ?_⟩
  unfold Vdp.lineStep Vdp.lineCounterStep Vdp.frameIntStep Vdp.advanceLine
  dsimp only
  split_ifs <;> exact h.vram

theorem vdpLineStep_vdp_inv {s : State} (h : s.vdp.Inv s.cfg) : s.vdpLineStep.vdp.Inv s.cfg := by
  obtain ⟨hv, hvram⟩ := lineStep_inv h
  unfold State.vdpLineStep
  dsimp only
  split
  · exact ⟨hv, hvram⟩
  · exact ⟨hv, hvram⟩

/-- Every move keeps the invariants of the session (10_state R40 to R44, R57). -/
theorem Together.inv {s s' u u' : State} (h : Together s s' u u') (hs : s.Inv) : u.Inv := by
  induction h with
  | start => exact hs
  | regs _ _ ih | tick _ _ ih | draw _ ih => exact ⟨ih.mapper, ih.ramBanks, ih.vdp⟩
  | store a v _ ih => exact ⟨ih.mapper.write _ a v, write_cartRamCount _ a v ih.ramBanks, ih.vdp⟩
  | input port _ ih =>
    exact ⟨by rw [ioRead_mapper]; exact ih.mapper, by rw [ioRead_mapper, ioRead_cfg]; exact ih.ramBanks,
      by rw [ioRead_cfg]; exact ioRead_vdp_inv ih.vdp port⟩
  | output port v _ ih =>
    exact ⟨by rw [ioWrite_mapper]; exact ih.mapper, by rw [ioWrite_mapper, ioWrite_cfg]; exact ih.ramBanks,
      by rw [ioWrite_cfg]; exact ioWrite_vdp_inv ih.vdp port v⟩
  | @line u _ _ ih =>
    rw [u.vdpLineStep_frame]
    exact ⟨ih.mapper, ih.ramBanks, vdpLineStep_vdp_inv ih.vdp⟩

/-- No move changes the number of ROM pages or a byte of one (10_state R40). -/
theorem Together.rom {s s' u u' : State} (h : Together s s' u u') (hs : s.Inv) :
    u.mapper.romPages = s.mapper.romPages ∧
      ∀ p o, 1 ≤ p → p ≤ s.mapper.romPages → u.mapper.pageByte p o = s.mapper.pageByte p o := by
  induction h with
  | start => exact ⟨rfl, fun _ _ _ _ => rfl⟩
  | regs _ _ ih | tick _ _ ih | draw _ ih => exact ih
  | @store u _ a v hu ih =>
    obtain ⟨hn, hb⟩ := ih
    refine ⟨by rw [State.memWrite_mapper, write_romPages, hn], fun p o h1 hp => ?_⟩
    rw [State.memWrite_mapper, (hu.inv hs).mapper.write_rom _ a v p o h1 (hn ▸ hp), hb p o h1 hp]
  | input port _ ih => rwa [ioRead_mapper]
  | output port v _ ih => rwa [ioWrite_mapper]
  | @line u _ _ ih => rwa [u.vdpLineStep_frame]

end Sys2Proof.Machine
end

section
/-! What each shared operation does, said once: made in two sessions at a time it is a sequence of the moves of `Together`, and it touches
the parts listed. First a rule per update, applied to what has been performed so far; then a lemma per operation of the meanings. -/

namespace Sys2Proof.Machine

/-- From `s` and `s'` the same moves lead to `u` and `u'`, and they touch no part outside `ps`. -/
structure Performs (s s' u u' : State) (ps : List Part) : Prop where
  together : Together s s' u u'
  frame : changesOnly s u ps

/-- What `f` performs in a session and in the same session with the history `ev`. -/
abbrev Does (s : State) (ev : List Event) (f : State → State) (ps : List Part) : Prop :=
  Performs s (s.withEvents ev) (f s) (f (s.withEvents ev)) ps

namespace Performs

section Rules
variable {s s' u u' w w' : State} {ps qs : List Part}

theorem start (s s' : State) : Performs s s' s s' [] := ⟨.start, .refl s⟩

theorem mono (h : Performs s s' u u' ps) (hsub : ps ⊆ qs) : Performs s s' u u' qs := ⟨h.together, h.frame.mono hsub⟩

theorem trans (h : Performs s s' u u' ps) (k : Performs u u' w w' qs) : Performs s s' w w' (qs ++ ps) :=
  ⟨h.together.trans k.together, h.frame.trans k.frame⟩

theorem regs (h : Performs s s' u u' ps) (g : Cpu → Cpu)
    (hq : changesOnly u { u with cpu := { g u.cpu with cycles := u.cpu.cycles } } qs) :
    Performs s s' { u with cpu := { g u.cpu with cycles := u.cpu.cycles } }
      { u' with cpu := { g u'.cpu with cycles := u'.cpu.cycles } } (qs ++ ps) :=
  ⟨.regs g h.together, h.frame.trans hq⟩

theorem addCycles (h : Performs s s' u u' ps) (n : Nat) : Performs s s' (u.addCycles n) (u'.addCycles n) (.cycles :: ps) :=
  ⟨.tick n h.together, h.frame.trans (addCycles_frame u n)⟩

theorem setPc (h : Performs s s' u u' ps) (v : Word) : Performs s s' (u.setPc v) (u'.setPc v) (.pc :: ps) :=
  h.regs (fun c => { c with pc := v }) (setPc_frame u v)

theorem setSp (h : Performs s s' u u' ps) (v : Word) : Performs s s' (u.setSp v) (u'.setSp v) (.sp :: ps) :=
  h.regs (fun c => { c with sp := v }) (setSp_frame u v)

theorem setBc (h : Performs s s' u u' ps) (v : Word) : Performs s s' (u.setBc v) (u'.setBc v) (.b :: .c :: ps) :=
  h.regs (fun c => { c with b := hiByte v, c := loByte v }) (setBc_frame u v)

theorem setDe (h : Performs s s' u u' ps) (v : Word) : Performs s s' (u.setDe v) (u'.setDe v) (.d :: .e :: ps) :=
  h.regs (fun c => { c with d := hiByte v, e := loByte v }) (setDe_frame u v)

theorem setHl (h : Performs s s' u u' ps) (v : Word) : Performs s s' (u.setHl v) (u'.setHl v) (.h :: .l :: ps) :=
  h.regs (fun c => { c with h := hiByte v, l := loByte v }) (setHl_frame u v)

theorem setAf (h : Performs s s' u u' ps) (v : Word) : Performs s s' (u.setAf v) (u'.setAf v) (.a :: allFlags ++ ps) :=
  h.regs (fun c => { c with a := hiByte v, f := Flags.ofByte (loByte v) }) (setAf_frame u v)

theorem setIx (h : Performs s s' u u' ps) (v : Word) : Performs s s' (u.setIx v) (u'.setIx v) (.ix :: ps) :=
  h.regs (fun c => { c with ix := v }) (setIx_frame u v)

theorem setIy (h : Performs s s' u u' ps) (v : Word) : Performs s s' (u.setIy v) (u'.setIy v) (.iy :: ps) :=
  h.regs (fun c => { c with iy := v }) (setIy_frame u v)

theorem setR8 (h : Performs s s' u u' ps) (r : Reg8) (v : Byte) : Performs s s' (u.setR8 r v) (u'.setR8 r v) (regPart r :: ps) := by
  refine ⟨?_, h.frame.trans (setR8_frame u r v)⟩
  cases r with
  | b => exact .regs (fun c => { c with b := v }) h.together
  | c => exact .regs (fun c => { c with c := v }) h.together
  | d => exact .regs (fun c => { c with d := v }) h.together
  | e => exact .regs (fun c => { c with e := v }) h.together
  | h => exact .regs (fun c => { c with h := v }) h.together
  | l => exact .regs (fun c => { c with l := v }) h.together
  | a => exact .regs (fun c => { c with a := v }) h.together

theorem setI (h : Performs s s' u u' ps) (v : Byte) :
    Performs s s' { u with cpu.i := v } { u' with cpu.i := v } (.i :: ps) :=
  h.regs (fun c => { c with i := v }) (setI_frame u v)

theorem setR (h : Performs s s' u u' ps) (v : Byte) :
    Performs s s' { u with cpu.r := v } { u' with cpu.r := v } (.r :: ps) :=
  h.regs (fun c => { c with r := v }) (setR_frame u v)

theorem setIff1 (h : Performs s s' u u' ps) (b : Bool) :
    Performs s s' { u with cpu.iff1 := b } { u' with cpu.iff1 := b } (.iff1 :: ps) :=
  h.regs (fun c => { c with iff1 := b }) (setIff1_frame u b)

theorem setIff2 (h : Performs s s' u u' ps) (b : Bool) :
    Performs s s' { u with cpu.iff2 := b } { u' with cpu.iff2 := b } (.iff2 :: ps) :=
  h.regs (fun c => { c with iff2 := b }) (setIff2_frame u b)

theorem setIm (h : Performs s s' u u' ps) (m : IntMode) :
    Performs s s' { u with cpu.im := m } { u' with cpu.im := m } (.im :: ps) :=
  h.regs (fun c => { c with im := m }) (setIm_frame u m)

theorem setHalted (h : Performs s s' u u' ps) (b : Bool) :
    Performs s s' { u with cpu.halted := b } { u' with cpu.halted := b } (.halted :: ps) :=
  h.regs (fun c => { c with halted := b }) (setHalted_frame u b)

theorem setIntInhibit (h : Performs s s' u u' ps) (b : Bool) :
    Performs s s' { u with cpu.intInhibit := b } { u' with cpu.intInhibit := b } (.intInhibit :: ps) :=
  h.regs (fun c => { c with intInhibit := b }) (setIntInhibit_frame u b)

theorem setNmiPending (h : Performs s s' u u' ps) (b : Bool) :
    Performs s s' { u with cpu.nmiPending := b } { u' with cpu.nmiPending := b } (.nmiPending :: ps) :=
  h.regs (fun c => { c with nmiPending := b }) (setNmiPending_frame u b)

theorem setShadowAf (h : Performs s s' u u' ps) (a : Byte) (f : Flags) :
    Performs s s' { u with cpu.a' := a, cpu.f' := f } { u' with cpu.a' := a, cpu.f' := f } (.shadowAf :: ps) :=
  h.regs (fun c => { c with a' := a, f' := f }) (setShadowAf_frame u a f)

theorem setShadowPairs (h : Performs s s' u u' ps) (bc de hl : Word) :
    Performs s s' { u with cpu.bc' := bc, cpu.de' := de, cpu.hl' := hl }
      { u' with cpu.bc' := bc, cpu.de' := de, cpu.hl' := hl } (.shadowBc :: .shadowDe :: .shadowHl :: ps) :=
  h.regs (fun c => { c with bc' := bc, de' := de, hl' := hl }) (setShadowPairs_frame u bc de hl)

theorem loadF (h : Performs s s' u u' ps) (f : Flags) : Performs s s' (u.loadF f) (u'.loadF f) (allFlags ++ ps) :=
  h.regs (fun c => { c with f := f }) (loadF_frame u f)

theorem writeF_keeping (kept : List Part) (h : Performs s s' u u' ps) (f : Flags)
    (hk : ∀ p ∈ kept, p.same u (u.writeF f)) :
    Performs s s' (u.writeF f) (u'.writeF f) ((.draws :: allFlags).filter (· ∉ kept) ++ ps) :=
  ⟨.draw (.regs (fun c => { c with f := f }) h.together), h.frame.trans (writeF_frame u f kept hk)⟩

theorem writeF (h : Performs s s' u u' ps) (f : Flags) :
    Performs s s' (u.writeF f) (u'.writeF f) (.draws :: allFlags ++ ps) := h.writeF_keeping [] f (by simp)

theorem writeF_keepC (h : Performs s s' u u' ps) (f : Flags) (hc : f.c = u.cpu.f.c := by rfl) :
    Performs s s' (u.writeF f) (u'.writeF f) (.draws :: flagsButC ++ ps) :=
  h.writeF_keeping [.flagC] f (by simpa [Part.same] using hc)

theorem writeF_keepSZPv (h : Performs s s' u u' ps) (f : Flags) (hs : f.s = u.cpu.f.s := by rfl)
    (hz : f.z = u.cpu.f.z := by rfl) (hpv : f.pv = u.cpu.f.pv := by rfl) :
    Performs s s' (u.writeF f) (u'.writeF f) (.draws :: flagsHNC ++ ps) :=
  h.writeF_keeping [.flagS, .flagZ, .flagPv] f (by simp [Part.same, hs, hz, hpv])

theorem memWrite (h : Performs s s' u u' ps) (a : Word) (v : Byte) :
    Performs s s' (u.memWrite a v) (u'.memWrite a v) (storing ++ ps) :=
  ⟨.store a v h.together, h.frame.trans (memWrite_frame u a v)⟩

theorem ioWrite (h : Performs s s' u u' ps) (port : Word) (v : Byte) :
    Performs s s' (u.ioWrite port v) (u'.ioWrite port v) (.vdp :: .events :: ps) :=
  ⟨.output port v h.together, h.frame.trans (ioWrite_frame u port v)⟩

end Rules

section Operations
variable (s : State) (ev : List Event)

/-! ### Registers and flags -/

theorem setPair (p : Pair) (v : Word) : Does s ev (·.setPair p v) (pairParts p) := by
  cases p with
  | bc => exact (start s _).setBc v
  | de => exact (start s _).setDe v
  | hl => exact (start s _).setHl v
  | sp => exact (start s _).setSp v

theorem setRegPIx (p : RegP) (v : Byte) : Does s ev (·.setRegPIx p v) [halfOrRegPart .ix p] := by
  cases p with
  | hi | lo => exact (start s _).setIx _
  | b => exact (start s _).setR8 .b v
  | c => exact (start s _).setR8 .c v
  | d => exact (start s _).setR8 .d v
  | e => exact (start s _).setR8 .e v
  | a => exact (start s _).setR8 .a v

theorem setRegPIy (p : RegP) (v : Byte) : Does s ev (·.setRegPIy p v) [halfOrRegPart .iy p] := by
  cases p with
  | hi | lo => exact (start s _).setIy _
  | b => exact (start s _).setR8 .b v
  | c => exact (start s _).setR8 .c v
  | d => exact (start s _).setR8 .d v
  | e => exact (start s _).setR8 .e v
  | a => exact (start s _).setR8 .a v

/-- Every 8-bit operation on A (43_alu8 R320). -/
theorem setAF (r : Byte × Flags) : Does s ev (·.setAF r) (.a :: .draws :: allFlags) := ((start s _).writeF _).setR8 .a _

theorem aluCp (v : Byte) : Does s ev (·.aluCp v) (.draws :: allFlags) := (start s _).writeF _

theorem addHl (v : Word) : Does s ev (·.addHl v) (.h :: .l :: .draws :: flagsHNC) := ((start s _).writeF_keepSZPv _).setHl _

theorem adcHl (v : Word) : Does s ev (·.adcHl v) (.h :: .l :: .draws :: allFlags) := ((start s _).writeF _).setHl _

theorem sbcHl (v : Word) : Does s ev (·.sbcHl v) (.h :: .l :: .draws :: allFlags) := ((start s _).writeF _).setHl _

theorem addIx (v : Word) : Does s ev (·.addIx v) (.ix :: .draws :: flagsHNC) := ((start s _).writeF_keepSZPv _).setIx _

theorem addIy (v : Word) : Does s ev (·.addIy v) (.iy :: .draws :: flagsHNC) := ((start s _).writeF_keepSZPv _).setIy _

theorem incR8 (r : Reg8) : Does s ev (·.incR8 r) (regPart r :: .draws :: flagsButC) := ((start s _).writeF_keepC _).setR8 r _

theorem decR8 (r : Reg8) : Does s ev (·.decR8 r) (regPart r :: .draws :: flagsButC) := ((start s _).writeF_keepC _).setR8 r _

theorem incIxHalf (h : Half) : Does s ev (·.incIxHalf h) (.ix :: .draws :: flagsButC) := ((start s _).writeF_keepC _).setIx _

theorem decIxHalf (h : Half) : Does s ev (·.decIxHalf h) (.ix :: .draws :: flagsButC) := ((start s _).writeF_keepC _).setIx _

theorem incIyHalf (h : Half) : Does s ev (·.incIyHalf h) (.iy :: .draws :: flagsButC) := ((start s _).writeF_keepC _).setIy _

theorem decIyHalf (h : Half) : Does s ev (·.decIyHalf h) (.iy :: .draws :: flagsButC) := ((start s _).writeF_keepC _).setIy _

theorem bitTest (v : Byte) (b : BitVec 3) : Does s ev (·.bitTest v b) (.draws :: flagsButC) := (start s _).writeF_keepC _

theorem loadA (v : Byte) : Does s ev (·.loadA v) (.a :: .draws :: flagsButC) := ((start s _).writeF_keepC _).setR8 .a v

theorem rotA (op : Byte → Bool → Byte × Bool) : Does s ev (·.rotA op) (.a :: .draws :: flagsHNC) :=
  ((start s _).writeF_keepSZPv _).setR8 .a _

theorem shiftReg (op : Byte → Bool → Byte × Bool) (r : Reg8) :
    Does s ev (·.shiftReg op r) (regPart r :: .draws :: allFlags) := ((start s _).writeF _).setR8 r _

theorem swapPairs : Does s ev State.swapPairs [.b, .c, .d, .e, .h, .l, .shadowBc, .shadowDe, .shadowHl] :=
  mono (((((start s _).setShadowPairs _ _ _).setBc _).setDe _).setHl _) (by decide)

theorem blockCompare (k : Word) : Does s ev (·.blockCompare k) ([.b, .c, .h, .l, .draws] ++ flagsButC) :=
  mono ((((start s _).setHl _).setBc _).writeF_keepC _) (by decide)

/-! ### Stores and the stack -/

theorem incMem (a : Word) : Does s ev (·.incMem a) (storing ++ .draws :: flagsButC) :=
  mono (((start s _).memWrite a _).writeF_keepC _) (by decide)

theorem decMem (a : Word) : Does s ev (·.decMem a) (storing ++ .draws :: flagsButC) :=
  mono (((start s _).memWrite a _).writeF_keepC _) (by decide)

theorem shiftMem (op : Byte → Bool → Byte × Bool) (a : Word) : Does s ev (·.shiftMem op a) (storing ++ .draws :: allFlags) :=
  mono (((start s _).memWrite a _).writeF _) (by decide)

theorem shiftMemCopy (op : Byte → Bool → Byte × Bool) (a : Word) (r : Reg8) :
    Does s ev (·.shiftMemCopy op a r) (regPart r :: storing ++ .draws :: allFlags) := (shiftMem s ev op a).setR8 r _

theorem rotateDigitLeft : Does s ev State.rotateDigitLeft (.a :: storing ++ .draws :: flagsButC) :=
  mono ((((start s _).memWrite _ _).writeF_keepC _).setR8 .a _) (by decide)

theorem rotateDigitRight : Does s ev State.rotateDigitRight (.a :: storing ++ .draws :: flagsButC) :=
  mono ((((start s _).memWrite _ _).writeF_keepC _).setR8 .a _) (by decide)

theorem memWrite16 (a v : Word) : Does s ev (·.memWrite16 a v) storing :=
  mono (((start s _).memWrite _ _).memWrite _ _) (by decide)

theorem replaceTop (v : Word) : Does s ev (·.replaceTop v) storing :=
  mono (((start s _).memWrite _ _).memWrite _ _) (by decide)

theorem blockLoad (k : Word) : Does s ev (·.blockLoad k)
    [.b, .c, .d, .e, .h, .l, .mapper, .events, .draws, .flagY, .flagH, .flagX, .flagPv, .flagN] :=
  mono ((((((start s _).memWrite _ _).setHl _).setDe _).setBc _).writeF_keeping [.flagS, .flagZ, .flagC] _
    (by simp [Part.same, blockLoadFlags])) (by decide)

theorem push16 (v : Word) : Does s ev (·.push16 v) (.sp :: storing) :=
  mono (((((start s _).setSp _).memWrite _ _).setSp _).memWrite _ _) (by decide)

theorem callTo (target : Word) : Does s ev (·.callTo target) (.sp :: .pc :: storing) :=
  mono ((push16 s ev s.cpu.pc).setPc target) (by decide)

theorem popPc : Does s ev State.popPc [.sp, .pc] := mono (((start s _).setSp _).setPc _) (by decide)

theorem returnFromNmi : Does s ev State.returnFromNmi [.sp, .pc, .iff1] :=
  mono ((popPc s ev).setIff1 s.cpu.iff2) (by decide)

theorem returnFromInt : Does s ev State.returnFromInt (.sp :: .pc :: retiParts s.cfg.retiIffPolicy) := by
  cases hp : s.cfg.retiIffPolicy with
  | unchanged =>
    dsimp only [Does]
    rw [s.returnFromInt_facts.1 hp, (s.withEvents ev).returnFromInt_facts.1 hp]
    exact popPc s ev
  | copyIff2 =>
    dsimp only [Does]
    rw [s.returnFromInt_facts.2.1 hp, (s.withEvents ev).returnFromInt_facts.2.1 hp]
    exact mono ((popPc s ev).setIff1 s.cpu.iff2) (by decide)
  | set =>
    dsimp only [Does]
    rw [s.returnFromInt_facts.2.2 hp, (s.withEvents ev).returnFromInt_facts.2.2 hp]
    exact mono (((popPc s ev).setIff1 true).setIff2 true) (by decide)

theorem takeInterrupt (target : Word) (cost : Nat) : Does s ev (·.takeInterrupt target cost)
    [.halted, .iff1, .r, .sp, .pc, .mapper, .events, .cycles] :=
  let s1 := State.bumpR { s with cpu.halted := false, cpu.iff1 := false } 1
  mono (((((start s (s.withEvents ev)).setIff1 false).setHalted false).setR (advanceR s.cpu.r 1)).trans
    (callTo s1 ev target) |>.addCycles cost) (by decide)

/-! ### Ports -/

theorem ioRead (port : Word) :
    Performs s (s.withEvents ev) (s.ioRead port).2 ((s.ioRead port).2.withEvents ev) [.vdp, .draws] :=
  ⟨by have h := Together.input port (.start (s := s) (s' := s.withEvents ev)); rwa [ioRead_withEvents] at h, ioRead_frame s port⟩

theorem inputA (port : Word) : Does s ev (·.inputA port) [.a, .vdp, .draws] := by
  dsimp only [Does, State.inputA]
  rw [ioRead_withEvents]
  exact (ioRead s ev port).setR8 .a _

theorem inputFlags : Does s ev State.inputFlags (.vdp :: .draws :: flagsButC) := by
  dsimp only [Does, State.inputFlags]
  rw [ioRead_withEvents]
  exact mono ((ioRead s ev s.bc).writeF_keepC _) (by decide)

theorem inputReg (r : Reg8) : Does s ev (·.inputReg r) (regPart r :: .vdp :: .draws :: flagsButC) := by
  dsimp only [Does, State.inputReg]
  rw [ioRead_withEvents]
  exact (inputFlags s ev).setR8 r _

theorem blockIn (k : Word) : Does s ev (·.blockIn k) ([.b, .h, .l, .vdp, .mapper, .events, .draws] ++ flagsButC) := by
  dsimp only [Does, State.blockIn]
  rw [ioRead_withEvents]
  exact mono (((((ioRead s ev s.bc).memWrite _ _).setHl _).setR8 .b _).writeF_keepC _) (by decide)

theorem blockOut (k : Word) : Does s ev (·.blockOut k) ([.b, .h, .l, .vdp, .events, .draws] ++ flagsButC) := by
  dsimp only [Does, State.blockOut, State.free]
  simp only [State.setHl_cpu_f, State.setHl_draws, ioWrite_cpu, ioWrite_draws]
  exact mono (((((start s _).setR8 .b _).ioWrite _ _).setHl _).writeF_keepC _ (by simp [blockIoFlags])) (by decide)

end Operations

end Performs

end Sys2Proof.Machine
end

section
/-! What every instruction does (the meanings of 40 to 49): the moves are the same whatever the history, and they touch no part
outside `writtenParts` and the cycle count. -/

namespace Sys2Proof.Machine

/-- Both outcomes go on, to states that the same moves lead to. -/
def Runs (s s' : State) (o o' : Out) (ps : List Part) : Prop := ∃ u u', o = .next u ∧ o' = .next u' ∧ Performs s s' u u' ps

section
variable {s s' u u' : State} {ps qs : List Part}

theorem Performs.next (h : Performs s s' u u' ps) : Runs s s' (.next u) (.next u') ps := ⟨u, u', rfl, rfl, h⟩

/-- An instruction ends by adding its cost (30_encoding R141). -/
theorem Performs.finish {n : Nat} (h : Performs s s' u u' ps) : Runs s s' (finish n u) (finish n u') (.cycles :: ps) :=
  (h.addCycles n).next

theorem Runs.mono {o o' : Out} (h : Runs s s' o o' ps) (hsub : ps ⊆ qs) : Runs s s' o o' qs := by
  obtain ⟨u, u', ho, ho', hp⟩ := h
  exact ⟨u, u', ho, ho', hp.mono hsub⟩

/-- A conditional instruction, both ways. -/
theorem Runs.ite {o o' q q' : Out} (c : Bool) (h : Runs s s' o o' ps) (k : Runs s s' q q' ps) :
    Runs s s' (if c then o else q) (if c then o' else q') ps := by
  cases c
  · exact k
  · exact h

end

section
variable (s : State) (ev : List Event)

open Performs

theorem jumpWhen (taken : Bool) (target : Word) : Does s ev (fun u => if taken then u.setPc target else u) [.pc] := by
  cases taken
  · exact (start s _).mono (by decide)
  · exact (start s _).setPc target

theorem jrWhen_runs (taken : Bool) (e : Byte) :
    Runs s (s.withEvents ev) (s.jrWhen taken e) ((s.withEvents ev).jrWhen taken e) [.cycles, .pc] :=
  .ite taken ((start s _).setPc _).finish (((start s _).mono (by decide)).finish)

theorem djnz_runs (e : Byte) :
    Runs s (s.withEvents ev) (execDjnz e s) (execDjnz e (s.withEvents ev)) [.cycles, .b, .pc] :=
  .ite (s.cpu.b - 1 != 0) ((((start s _).setR8 .b _).setPc _).finish.mono (by decide))
    (((start s _).setR8 .b _).finish.mono (by decide))

/-- The repeat mechanism may put PC back (42_exchange_block R287). -/
theorem repeatWhile_runs {u u' : State} {ps : List Part} (again : Bool) (h : Performs s (s.withEvents ev) u u' ps) :
    Runs s (s.withEvents ev) (repeatWhile again u) (repeatWhile again u') (.cycles :: .pc :: ps) := by
  obtain ⟨new, -, rfl⟩ := h.together.twin
  exact .ite again (h.setPc _).finish (h.mono (List.subset_cons_self _ _)).finish

/-- The repeat mechanism of block input and output, while B is not 0 (49_io R527). -/
theorem repeatWhileB_runs {u u' : State} {ps : List Part} (h : Performs s (s.withEvents ev) u u' ps) :
    Runs s (s.withEvents ev) (repeatWhile (u.cpu.b != 0) u) (repeatWhile (u'.cpu.b != 0) u') (.cycles :: .pc :: ps) := by
  obtain ⟨new, -, rfl⟩ := h.together.twin
  exact repeatWhile_runs s ev (u.cpu.b != 0) h

/-- Every instruction goes on, in step whatever the history, and touches only what the table says (10_state R27, R28, R60). -/
theorem exec_runs (i : Instr) (hi : isPrefixRow i = false) :
    Runs s (s.withEvents ev) (exec i s) (exec i (s.withEvents ev)) (.cycles :: writtenParts s.cfg i) := by
  cases i with
  | prefixCb | prefixDd | prefixEd | prefixFd | prefixDdCb | prefixFdCb => cases hi
  -- 40_load8
  | ldRN | ldRMemHl | ldRR | ldRMemIx | ldRMemIy => exact ((start s _).setR8 _ _).finish
  | ldAMemBc | ldAMemDe | ldAMemNn => exact ((start s _).setR8 .a _).finish
  | ldMemBcA | ldMemDeA | ldMemNnA | ldMemHlN | ldMemHlR | ldMemIxN | ldMemIxR | ldMemIyN | ldMemIyR =>
    exact ((start s _).memWrite _ _).finish
  | ldAI | ldAR => exact (loadA s ev _).finish
  | ldIA => exact ((start s _).setI _).finish
  | ldRA => exact ((start s _).setR _).finish
  | ldIxHalfN => exact ((start s _).setIx _).finish
  | ldIyHalfN => exact ((start s _).setIy _).finish
  | ldPPIx => exact (setRegPIx s ev _ _).finish
  | ldPPIy => exact (setRegPIy s ev _ _).finish
  -- 41_load16_stack
  | ldDdNn | ldDdMemNn | incSs | decSs => exact (setPair s ev _ _).finish
  | ldHlMemNn => exact ((start s _).setHl _).finish
  | ldIxNn | ldIxMemNn | incIx | decIx => exact ((start s _).setIx _).finish
  | ldIyNn | ldIyMemNn | incIy | decIy => exact ((start s _).setIy _).finish
  | ldSpHl | ldSpIx | ldSpIy => exact ((start s _).setSp _).finish
  | ldMemNnHl | ldMemNnDd | ldMemNnIx | ldMemNnIy => exact (memWrite16 s ev _ _).finish
  | pushQq | pushIx | pushIy => exact (push16 s ev _).finish
  | popQq qq =>
    cases qq with
    | bc => exact (((start s _).setSp _).setBc _).finish.mono (by simp [writtenParts, pairQParts])
    | de => exact (((start s _).setSp _).setDe _).finish.mono (by simp [writtenParts, pairQParts])
    | hl => exact (((start s _).setSp _).setHl _).finish.mono (by simp [writtenParts, pairQParts])
    | af => exact (((start s _).setSp _).setAf _).finish.mono (by simp [writtenParts, pairQParts, allFlags])
  | popIx => exact (((start s _).setSp _).setIx _).finish.mono (by simp [writtenParts])
  | popIy => exact (((start s _).setSp _).setIy _).finish.mono (by simp [writtenParts])
  -- 42_exchange_block
  | exAfAf => exact ((((start s _).setR8 .a s.cpu.a').loadF s.cpu.f').setShadowAf s.cpu.a s.cpu.f).finish.mono (by simp [writtenParts, regPart, allFlags])
  | exx => exact (swapPairs s ev).finish
  | exDeHl => exact (((start s _).setDe _).setHl _).finish.mono (by simp [writtenParts])
  | exMemSpHl => exact ((replaceTop s ev _).setHl _).finish
  | exMemSpIx => exact ((replaceTop s ev _).setIx _).finish
  | exMemSpIy => exact ((replaceTop s ev _).setIy _).finish
  | ldi | ldd => exact (blockLoad s ev _).finish
  | ldir | lddr => exact (repeatWhile_runs s ev _ (blockLoad s ev _)).mono (by simp [writtenParts])
  | cpi | cpd => exact (blockCompare s ev _).finish
  | cpir | cpdr => exact (repeatWhile_runs s ev _ (blockCompare s ev _)).mono (by simp [writtenParts, flagsButC])
  -- 43_alu8
  | addAR | addAMemHl | addAN | addAIxHalf | addAMemIx | addAIyHalf | addAMemIy | adcAR | adcAMemHl | adcAN
  | adcAIxHalf | adcAMemIx | adcAIyHalf | adcAMemIy | subR | subMemHl | subN | subIxHalf | subMemIx | subIyHalf
  | subMemIy | sbcAR | sbcAMemHl | sbcAN | sbcAIxHalf | sbcAMemIx | sbcAIyHalf | sbcAMemIy | andR | andMemHl | andN
  | andIxHalf | andMemIx | andIyHalf | andMemIy | xorR | xorMemHl | xorN | xorIxHalf | xorMemIx | xorIyHalf
  | xorMemIy | orR | orMemHl | orN | orIxHalf | orMemIx | orIyHalf | orMemIy | neg | negMirror =>
    exact (setAF s ev _).finish
  | cpR | cpMemHl | cpN | cpIxHalf | cpMemIx | cpIyHalf | cpMemIy => exact (aluCp s ev _).finish
  | incR => exact (incR8 s ev _).finish
  | decR => exact (decR8 s ev _).finish
  | incMemHl | incMemIx | incMemIy => exact (incMem s ev _).finish
  | decMemHl | decMemIx | decMemIy => exact (decMem s ev _).finish
  | incIxHalf => exact (incIxHalf s ev _).finish
  | decIxHalf => exact (decIxHalf s ev _).finish
  | incIyHalf => exact (incIyHalf s ev _).finish
  | decIyHalf => exact (decIyHalf s ev _).finish
  -- 44_general_control
  | nop | nopEdX0 | nopEd77 | nopEd80 | nopEdA4 | nopEdX3 => exact (start s _).finish
  | daa => exact (((start s _).writeF_keeping [.flagN] _ (by simp [Part.same, daa8])).setR8 .a _).finish
  | cpl =>
    exact (((start s _).writeF_keeping [.flagS, .flagZ, .flagPv, .flagC] _ (by simp [Part.same, cplFlags])).setR8 .a _).finish
  | ccf | scf => exact ((start s _).writeF_keepSZPv _).finish
  | halt => exact ((start s _).setHalted true).finish
  | di => exact (((start s _).setIff2 false).setIff1 false).finish
  | ei => exact ((((start s _).setIntInhibit true).setIff2 true).setIff1 true).finish
  | im0 | im1 | im2 | im0Mirror | im1Mirror | im2Mirror => exact ((start s _).setIm _).finish
  | noniDd | noniFd => exact ((start s _).setIntInhibit true).finish
  -- 45_alu16
  | addHlSs => exact (addHl s ev _).finish
  | adcHlSs => exact (adcHl s ev _).finish
  | sbcHlSs => exact (sbcHl s ev _).finish
  | addIxPp => exact (addIx s ev _).finish
  | addIyRr => exact (addIy s ev _).finish
  -- 46_rotate_shift
  | rlca | rrca | rla | rra => exact (rotA s ev _).finish
  | rlcR | rrcR | rlR | rrR | slaR | sraR | sllR | srlR => exact (shiftReg s ev _ _).finish
  | rlcMemHl | rlcMemIx | rlcMemIy | rrcMemHl | rrcMemIx | rrcMemIy | rlMemHl | rlMemIx | rlMemIy | rrMemHl | rrMemIx
  | rrMemIy | slaMemHl | slaMemIx | slaMemIy | sraMemHl | sraMemIx | sraMemIy | sllMemHl | sllMemIx | sllMemIy
  | srlMemHl | srlMemIx | srlMemIy => exact (shiftMem s ev _ _).finish
  | rlcMemIxR | rlcMemIyR | rrcMemIxR | rrcMemIyR | rlMemIxR | rlMemIyR | rrMemIxR | rrMemIyR | slaMemIxR | slaMemIyR
  | sraMemIxR | sraMemIyR | sllMemIxR | sllMemIyR | srlMemIxR | srlMemIyR => exact (shiftMemCopy s ev _ _ _).finish
  | rld => exact (rotateDigitLeft s ev).finish
  | rrd => exact (rotateDigitRight s ev).finish
  -- 47_bit
  | bitR | bitMemHl | bitMemIx | bitMemIxZ | bitMemIy | bitMemIyZ => exact (bitTest s ev _ _).finish
  | resR | setR => exact ((start s _).setR8 _ _).finish
  | resMemHl | resMemIx | resMemIy | setMemHl | setMemIx | setMemIy => exact ((start s _).memWrite _ _).finish
  | resMemIxR | resMemIyR | setMemIxR | setMemIyR => exact (((start s _).memWrite _ _).setR8 _ _).finish
  -- 48_jump_call_return
  | jr | jpHl | jpIx | jpIy | jpNn => exact ((start s _).setPc _).finish
  | jrNz | jrZ | jrNc | jrC => exact jrWhen_runs s ev _ _
  | djnz => exact djnz_runs s ev _
  | jpCcNn => exact (jumpWhen s ev _ _).finish
  | callNn | rst => exact (callTo s ev _).finish
  | callCcNn => exact .ite _ (callTo s ev _).finish ((start s _).mono (List.nil_subset _)).finish
  | ret => exact (popPc s ev).finish
  | retCc => exact .ite _ (popPc s ev).finish ((start s _).mono (List.nil_subset _)).finish
  | retn | retnMirror => exact (returnFromNmi s ev).finish
  | reti => exact (returnFromInt s ev).finish
  -- 49_io
  | outNA | outCR | outC0 => exact ((start s _).ioWrite _ _).finish
  | inAN => exact (inputA s ev _).finish
  | inRC => exact (inputReg s ev _).finish
  | inC => exact (inputFlags s ev).finish
  | ini | ind => exact (blockIn s ev _).finish
  | outi | outd => exact (blockOut s ev _).finish
  | inir | indr => exact (repeatWhileB_runs s ev (blockIn s ev _)).mono (by simp [writtenParts, flagsButC])
  | otir | otdr => exact (repeatWhileB_runs s ev (blockOut s ev _)).mono (by simp [writtenParts, flagsButC])

end

end Sys2Proof.Machine
end

section
/-! What every step does: a line of the VDP, or a fetch and an instruction or a halted tick, then the interrupt unit (60_exceptions R610,
R650, R651), in step with the same session under another history. -/

namespace Sys2Proof.Machine

open Performs

/-- Both outcomes go on together or stop with the same refusal. -/
def InStep (s s' : State) (o o' : Out) (ps : List Part) : Prop :=
  Runs s s' o o' ps ∨ ∃ r, o = .refused r ∧ o' = .refused r

section
variable (s : State) (ev : List Event)

/-- A part of the step that goes on, followed by a further part. -/
theorem InStep.bind {o o' : Out} {k : State → Out} {ps : List Part} (h : Runs s (s.withEvents ev) o o' ps)
    (hk : ∀ u new, InStep u (u.withEvents new) (k u) (k (u.withEvents new)) ps) :
    InStep s (s.withEvents ev) (bindOut o k) (bindOut o' k) ps := by
  obtain ⟨u, u', rfl, rfl, hp⟩ := h
  obtain ⟨new, -, rfl⟩ := hp.together.twin
  obtain ⟨w, w', hw, hw', hq⟩ | hr := hk u (new ++ ev)
  · exact .inl ⟨w, w', hw, hw', (hp.trans hq).mono (by simp)⟩
  · exact .inr hr

theorem InStep.mono {s s' : State} {o o' : Out} {ps qs : List Part} (h : InStep s s' o o' ps) (hsub : ps ⊆ qs) :
    InStep s s' o o' qs := h.imp_left (·.mono hsub)

theorem InStep.ite {s s' : State} {o o' q q' : Out} {ps : List Part} (c : Bool) (h : InStep s s' o o' ps)
    (k : InStep s s' q q' ps) : InStep s s' (if c then o else q) (if c then o' else q') ps := by
  cases c
  · exact k
  · exact h

/-! ### The interrupt unit -/

/-- What the interrupt unit may change (60_exceptions R610, R616). -/
def interruptParts : List Part :=
  [.pc, .sp, .iff1, .iff2, .halted, .intInhibit, .r, .cycles, .nmiPending, .mapper, .events]

theorem nmiEntry_does : Does s ev State.nmiEntry interruptParts :=
  mono (((start s _).setNmiPending false).trans (takeInterrupt { s with cpu.nmiPending := false } ev _ _)) (by decide)

/-- The common part of the maskable entries (60_exceptions R612). -/
theorem maskableTake_does (target : Word) (cost : Nat) :
    Does s ev (fun u => State.takeInterrupt { u with cpu.iff2 := false } target cost) interruptParts :=
  mono (((start s _).setIff2 false).trans (takeInterrupt { s with cpu.iff2 := false } ev _ _)) (by decide)

theorem maskableEntry_inStep :
    InStep s (s.withEvents ev) s.maskableEntry (s.withEvents ev).maskableEntry interruptParts := by
  have him : (s.withEvents ev).cpu.im = s.cpu.im := rfl
  unfold State.maskableEntry
  rw [him]
  cases s.cpu.im with
  | im0 => exact .ite (busByteIsRst s.cfg.intBusByte) (.inl (maskableTake_does s ev _ _).next) (.inr ⟨_, rfl, rfl⟩)
  | im1 => exact .inl (maskableTake_does s ev _ _).next
  | im2 => exact .inl (maskableTake_does s ev _ _).next

theorem interruptResolve_inStep :
    InStep s (s.withEvents ev) s.interruptResolve (s.withEvents ev).interruptResolve interruptParts :=
  .ite s.cpu.intInhibit (.inl (((start s _).setIntInhibit false).mono (by decide)).next)
    (.ite s.cpu.nmiPending (.inl (nmiEntry_does s ev).next)
      (.ite (s.cpu.iff1 && s.vdp.intLine) (maskableEntry_inStep s ev) (.inl ((start s _).mono (List.nil_subset _)).next)))

/-! ### The step -/

theorem afterFetch_does : Does s ev State.afterFetch [.r, .pc] := ((start s _).setPc _).setR _

theorem haltedTick_does : Does s ev State.haltedTick [.cycles, .r] := ((start s _).setR _).addCycles 4

/-- What a step may change whatever instruction it runs. -/
def stepParts : List Part :=
  [.pc, .sp, .iff1, .iff2, .halted, .intInhibit, .r, .cycles, .nmiPending, .mapper, .events, .vdp, .draws]

theorem instructionStep_runs :
    Runs s (s.withEvents ev) s.instructionStep (s.withEvents ev).instructionStep (stepParts ++ writtenParts s.cfg s.fetched) := by
  have hW : writtenParts s.cfg s.fetched ⊆ stepParts ++ writtenParts s.cfg s.fetched := List.subset_append_right _ _
  obtain ⟨u, u', hu, hu', hp⟩ := exec_runs s.afterFetch ev s.fetched (fetched_not_prefixRow s)
  refine ⟨u, u', hu, hu', ((afterFetch_does s ev).trans hp).mono ?_⟩
  exact List.append_subset.mpr ⟨List.cons_subset.mpr ⟨by simp [stepParts], hW⟩, by simp [stepParts]⟩

theorem cpuStep_inStep :
    InStep s (s.withEvents ev) s.cpuStep (s.withEvents ev).cpuStep (stepParts ++ writtenParts s.cfg s.fetched) := by
  refine InStep.bind s ev (Runs.ite s.cpu.halted ?_ ?_) fun u new => ?_
  · exact ((haltedTick_does s ev).mono (by simp [stepParts])).next
  · exact instructionStep_runs s ev
  · exact (interruptResolve_inStep u new).mono (by simp [stepParts, interruptParts])

/-- Every step, said once: in step under every history, touching only `stepParts` and what its instruction's table entry lists. -/
theorem step_inStep :
    InStep s (s.withEvents ev) (step s) (step (s.withEvents ev)) (stepParts ++ writtenParts s.cfg s.fetched) := by
  have hline : Does s ev State.vdpLineStep [.vdp, .draws] := ⟨.line .start, vdpLineStep_changesOnly s⟩
  exact .ite s.cpuTurn (cpuStep_inStep s ev) (.inl (hline.mono (by simp [stepParts])).next)

end

/-- A step that goes on is a sequence of moves. -/
theorem step_performs {s t : State} (h : step s = .next t) : Performs s s t t (stepParts ++ writtenParts s.cfg s.fetched) := by
  obtain ⟨u, u', hu, hu', hp⟩ | ⟨r, hr, -⟩ := step_inStep s s.events
  · obtain rfl : u = t := Host.Outcome.next.inj (hu.symm.trans h)
    obtain rfl : u' = u := Host.Outcome.next.inj (hu'.symm.trans h)
    exact hp
  · rw [hr] at h; cases h

/-- An instruction that goes on touches only what the table says (10_state R27). -/
theorem exec_frame {i : Instr} {s t : State} (hi : isPrefixRow i = false) (h : exec i s = .next t) :
    changesOnly s t (.cycles :: writtenParts s.cfg i) := by
  obtain ⟨u, u', hu, -, hp⟩ := exec_runs s s.events i hi
  obtain rfl : u = t := Host.Outcome.next.inj (hu.symm.trans h)
  exact hp.frame

/-- Settles O35: each instruction touches only its table entry, `exec_runs`. -/
theorem instructionFrame : Obligations.InstructionFrame := fun _ _ _ hi h => exec_frame hi h

/-- Settles O11: each move of a step keeps the invariants, `Together.inv`. -/
theorem stepKeepsInvariant : Obligations.StepKeepsInvariant := fun _ _ hs h => (step_performs h).together.inv hs

/-- Settles O14: no move of a step reaches a ROM page, `Together.rom`. -/
theorem romNeverChanges : Obligations.RomNeverChanges := by
  intro s t p o hs h h1 hp
  obtain ⟨hn, hb⟩ := (step_performs h).together.rom hs
  exact ⟨hb p o h1 hp, hn⟩

/-- Settles O20: the moves of a step under another history are the same moves, `Together.twin`. -/
theorem eventsAreObservational : Obligations.EventsAreObservational := by
  intro s ev
  obtain ⟨u, u', hu, hu', hp⟩ | ⟨r, hr, hr'⟩ := step_inStep s ev
  · obtain ⟨new, he, rfl⟩ := hp.together.twin
    refine ⟨fun t ht => ?_, fun r hr => ?_⟩
    · obtain rfl : u = t := Host.Outcome.next.inj (hu.symm.trans ht)
      exact ⟨new, he, hu'⟩
    · rw [hu] at hr; cases hr
  · refine ⟨fun t ht => ?_, fun q hq => ?_⟩
    · rw [hr] at ht; cases ht
    · obtain rfl : r = q := Host.Outcome.refused.inj (hr.symm.trans hq)
      exact hr'

/-! ### System registers -/

/-- The registers and inputs that only particular instructions write, or none. -/
def systemParts : List Part := [.i, .r, .im, .shadowAf, .shadowBc, .shadowDe, .shadowHl, .joypads, .cfg]

/-- The system parts an instruction writes (10_state R22, R29, R30, R32). -/
def systemWritten : Instr → List Part
  | .ldIA => [.i]
  | .ldRA => [.r]
  | .im0 | .im1 | .im2 | .im0Mirror _ | .im1Mirror | .im2Mirror => [.im]
  | .exAfAf => [.shadowAf]
  | .exx => [.shadowBc, .shadowDe, .shadowHl]
  | _ => []

theorem filter_system_regPart (r : Reg8) (ps : List Part) :
    (regPart r :: ps).filter (· ∈ systemParts) = ps.filter (· ∈ systemParts) := by cases r <;> rfl

/-- Of the table of written parts, the system parts (10_state R22, R29, R30, R32). -/
theorem filter_system_writtenParts (cfg : Config) (i : Instr) :
    (writtenParts cfg i).filter (· ∈ systemParts) = systemWritten i := by
  cases i with
  | ldRN | ldRMemHl | ldRMemIx | ldRMemIy | ldRR | resR | setR | resMemIxR | resMemIyR | setMemIxR | setMemIyR | incR | decR
  | rlcR | rrcR | rlR | rrR | slaR | sraR | sllR | srlR | rlcMemIxR | rlcMemIyR | rrcMemIxR | rrcMemIyR | rlMemIxR
  | rlMemIyR | rrMemIxR | rrMemIyR | slaMemIxR | slaMemIyR | sraMemIxR | sraMemIyR | sllMemIxR | sllMemIyR | srlMemIxR
  | srlMemIyR | inRC => exact filter_system_regPart _ _
  | ldPPIx dst | ldPPIy dst => cases dst <;> rfl
  | ldDdNn dd | incSs dd | decSs dd => cases dd <;> rfl
  | ldDdMemNn dd => cases dd <;> rfl
  | popQq qq => cases qq <;> rfl
  | reti =>
    show (Part.sp :: .pc :: retiParts cfg.retiIffPolicy).filter (· ∈ systemParts) = []
    cases cfg.retiIffPolicy <;> rfl
  | _ => rfl

/-- Which instructions write a system part (10_state R22, R29, R30, R32): none writes the parameters or the input latches. -/
def IsSystemWriter : Part → Instr → Prop
  | .i, i => i = .ldIA
  | .r, i => i = .ldRA
  | .im, i => i ∈ [.im0, .im1, .im2, .im1Mirror, .im2Mirror] ∨ ∃ y, i = .im0Mirror y
  | .shadowAf, i => i = .exAfAf
  | .shadowBc, i | .shadowDe, i | .shadowHl, i => i = .exx
  | _, _ => False

theorem isSystemWriter_of_written {cfg : Config} {i : Instr} {p : Part} (hp : p ∈ systemParts) (h : p ∈ writtenParts cfg i) :
    IsSystemWriter p i := by
  have hw : p ∈ systemWritten i := by
    rw [← filter_system_writtenParts cfg]
    exact List.mem_filter.mpr ⟨h, decide_eq_true hp⟩
  unfold systemWritten at hw
  split at hw <;> fin_cases hw <;> simp [IsSystemWriter]

/-- A system part that no step changes by itself changed, so the instruction that ran is one of its writers. -/
theorem step_system_writer {s t : State} (h : step s = .next t) (p : Part) (hne : ¬p.same s t)
    (hp : p ∈ systemParts := by decide) (hs : p ∉ stepParts := by decide) : IsSystemWriter p s.fetched := by
  have hm : p ∈ stepParts ++ writtenParts s.cfg s.fetched := by_contra fun hn => hne ((step_performs h).frame p hn)
  exact isSystemWriter_of_written hp ((List.mem_append.mp hm).resolve_left hs)

/-! ### Bit 7 of R -/

/-- Counting opcode fetches keeps bit 7 of R (10_state R30). -/
theorem advanceR_bit7 (r : Byte) (n : Nat) : (advanceR r n).getLsbD 7 = r.getLsbD 7 := by
  rw [signBit_eq, signBit_eq, advanceR_toNat]
  have := r.isLt
  congr 1
  exact propext ⟨fun h => by omega, fun h => by omega⟩

theorem interruptResolve_bit7 {s t : State} (h : s.interruptResolve = .next t) : t.cpu.r.getLsbD 7 = s.cpu.r.getLsbD 7 := by
  obtain rfl | rfl | hm | rfl := interruptResolve_next h
  · rfl
  · exact advanceR_bit7 s.cpu.r 1
  · obtain ⟨_, _, rfl, -⟩ := maskableEntry_next hm
    exact advanceR_bit7 s.cpu.r 1
  · rfl

/-- Only `LD R,A` writes bit 7 of R (10_state R30). -/
theorem step_bit7 {s t : State} (h : step s = .next t) (hi : s.fetched ≠ .ldRA) : t.cpu.r.getLsbD 7 = s.cpu.r.getLsbD 7 := by
  obtain ⟨-, ht⟩ | ⟨-, hc⟩ := step_cases h
  · rw [Host.Outcome.next.inj ht, s.vdpLineStep_frame]
  · obtain ⟨u, ⟨-, rfl⟩ | ⟨-, hu⟩, hr⟩ := cpuStep_next hc
    · exact (interruptResolve_bit7 hr).trans (advanceR_bit7 s.cpu.r 1)
    · have hnot : Part.r ∉ .cycles :: writtenParts s.cfg s.fetched := fun hm =>
        hi (isSystemWriter_of_written (p := .r) (by decide) (List.mem_of_ne_of_mem (by decide) hm))
      have hur : u.cpu.r = s.afterFetch.cpu.r := exec_frame (fetched_not_prefixRow s) hu .r hnot
      rw [interruptResolve_bit7 hr, hur]
      exact advanceR_bit7 s.cpu.r _

/-- Settles O18: whatever system part changed, the instruction is one of its writers, `step_system_writer`; bit 7 of R by `step_bit7`;
the counters by the moves of the step. -/
theorem systemRegisterWriters : Obligations.SystemRegisterWriters := by
  intro s t h
  have hmoves := (step_performs h).together
  have hcfg : Part.cfg.same s t := by_contra (step_system_writer h .cfg)
  obtain ⟨hj0, hj1⟩ : Part.joypads.same s t := by_contra (step_system_writer h .joypads)
  refine ⟨step_system_writer h .i, fun hne => ?_, step_system_writer h .im, fun hne => ?_, fun hne => ?_,
    hcfg, hj0, hj1, hmoves.vdp_h, hmoves.cycles_le⟩
  · exact by_contra fun hi => hne (step_bit7 h hi)
  · exact step_system_writer h .shadowAf fun hsame => hne.elim (· hsame.1) (· hsame.2)
  · obtain hbc | hde | hhl := hne
    · exact step_system_writer h .shadowBc hbc
    · exact step_system_writer h .shadowDe hde
    · exact step_system_writer h .shadowHl hhl

end Sys2Proof.Machine
end

section
/-! The slot table, reads, the session after reset, and control writes on the two variants (10_state R40 to R44, R61 to R64; 20_memory
R80 to R112). -/

namespace Sys2Proof.Machine

/-! ### The session after reset -/

/-- Settles O12: the table is the remap function's, and every page and VRAM are empty. -/
theorem resetMeetsInvariant : Obligations.ResetMeetsInvariant where
  mapper :=
    { rom := by decide
      length := by decide
      bank := Bank.ok_of_unallocated (by decide) rfl
      table := by decide
      pages := by decide }
  ramBanks := rfl
  vdp := ⟨by decide, rfl⟩

/-! ### Reads -/

theorem slotOf_val (a : Word) : (slotOf a).val = a.toNat / 8192 := by
  have := a.isLt
  simp [slotOf, Nat.shiftRight_eq_div_pow]
  omega

theorem offsetOf_eq (a : Word) : offsetOf a = a.toNat % 8192 := by simp [offsetOf]

/-- Outside the pinned window an address resolves to its offset in the page its slot names (20_memory R94). -/
theorem resolve_of_not_pinned {m : Mapper} {a : Word} (h : m.pinned a = false) :
    m.resolve a = (m.slot[slotOf a], offsetOf a) := by
  unfold Mapper.resolve
  rw [if_neg (by simp [h])]

theorem pinned_eq_false {m : Mapper} {a : Word} (h : 0x400 ≤ a.toNat ∨ ∃ r, m.bank = .codemasters r) : m.pinned a = false := by
  unfold Mapper.pinned
  split
  · rename_i r hb
    obtain hle | ⟨r', hr'⟩ := h
    · exact decide_eq_false (Nat.not_lt.mpr hle)
    · rw [hb] at hr'; cases hr'
  · rfl

/-- Settles O15: the remap function's entries, and `Mapper.resolve` outside the pinned window. -/
theorem slotTableAlwaysValid : Obligations.SlotTableAlwaysValid := by
  refine ⟨fun m i hm => ⟨hm.slot_lt i, hm.writable_slot i⟩, fun m a ha => ?_⟩
  unfold Mapper.read
  rw [resolve_of_not_pinned (pinned_eq_false ha), offsetOf_eq]
  simp only [Fin.getElem_fin, slotOf_val]

/-! ### Control writes -/

theorem romPage_bankNumber (n : Nat) (ctl : Byte) (j : Nat) : romPage n (2 * bankNumber ctl + j) = bankPage n ctl j := by
  simp [romPage, bankPage, bankNumber]

/-- A control write that maps a bank with no RAM yet (20_memory R102, R104, R112). -/
theorem controlWritten_allocating (m : Mapper) {bank : Bank} (i : Nat) (v : Byte) {k : Nat} (hm : bank.mapped = some k)
    (hk : bank.ram[k]? = some none) :
    let w := m.controlWritten bank i v
    w.1.pages = m.pages ++ List.replicate bank.ramPages [] ∧
      w.1.bank = bank.withRam (bank.ram.set k (some m.pages.length)) ∧
      w.2 = [.ramAllocated k m.pages.length, .controlWrite i v, .remap w.1.slot w.1.writable] := by
  have ha : allocate m.pages bank.ram bank.ramPages bank.mapped =
      (m.pages ++ List.replicate bank.ramPages [], bank.ram.set k (some m.pages.length), [.ramAllocated k m.pages.length]) := by
    rw [hm]; exact if_pos hk
  refine ⟨?_, ?_, ?_⟩ <;> simp [Mapper.controlWritten, ha, Mapper.remapped]

theorem Bank.withRam_self (b : Bank) : b.withRam b.ram = b := by cases b <;> rfl

/-- Every other control write allocates nothing (20_memory R102, R112). -/
theorem controlWritten_not_allocating (m : Mapper) {bank : Bank} (i : Nat) (v : Byte)
    (hn : ∀ k, bank.mapped = some k → bank.ram[k]? ≠ some none) :
    let w := m.controlWritten bank i v
    w.1.pages = m.pages ∧ w.1.bank = bank ∧ w.2 = [.controlWrite i v, .remap w.1.slot w.1.writable] := by
  have ha : allocate m.pages bank.ram bank.ramPages bank.mapped = (m.pages, bank.ram, []) := by
    cases hm : bank.mapped with
    | none => rfl
    | some k => exact if_neg (hn k hm)
  refine ⟨?_, ?_, ?_⟩ <;> simp [Mapper.controlWritten, ha, Mapper.remapped, Bank.withRam_self]

/-- After a control write the mapped bank has RAM (20_memory R104). -/
theorem controlWritten_mapped_allocated (m : Mapper) (bank : Bank) (i : Nat) (v : Byte) (k : Nat)
    (hk : (m.controlWritten bank i v).1.bank.mapped = some k) :
    ∃ p, (m.controlWritten bank i v).1.bank.ram[k]? = some (some p) := by
  rw [controlWritten_bank, Bank.mapped_withRam _ _ (allocate_ram_length ..)] at hk
  rw [controlWritten_bank, Bank.ram_withRam, allocate_ram, hk, List.getElem?_eq_getElem (Bank.mapped_lt hk)]
  cases hg : bank.ram[k]'(Bank.mapped_lt hk) with
  | none => exact ⟨m.pages.length, by simp⟩
  | some p => exact ⟨p, by simp⟩

/-! ### The Sega variant -/

/-- The remap function's table is the table of the rules (20_memory R93, R100). -/
theorem segaTable_of_remap {m : Mapper} {r : SegaBank} (ht : (m.slot, m.writable) = segaRemap m.romPages r)
    (ha : ∀ k, r.mapped = some k → ∃ p, r.ram[k]? = some (some p)) : SegaTable m r := by
  unfold SegaTable
  cases hm : r.mapped with
  | none =>
    obtain ⟨hs, hw⟩ := Prod.mk.inj (ht.trans (segaRemap_off _ r hm))
    have hnone : ∀ k, ¬_ := fun k hk => Option.some_ne_none k (((r.mapped_eq_some k).mpr hk).symm.trans hm)
    rw [hs, hw]
    exact ⟨romPage_bankNumber _ _ 0, romPage_bankNumber _ _ 1, romPage_bankNumber _ _ 0, romPage_bankNumber _ _ 1, rfl, rfl,
      fun _ => ⟨romPage_bankNumber _ _ 0, romPage_bankNumber _ _ 1, rfl⟩,
      fun hon hlt => (hnone _ ⟨hon, rfl, hlt⟩).elim⟩
  | some k =>
    obtain ⟨hs, hw⟩ := Prod.mk.inj (ht.trans (segaRemap_on _ r k hm))
    obtain ⟨hon, rfl, hlt⟩ := (r.mapped_eq_some k).mp hm
    obtain ⟨p, hp⟩ := ha _ hm
    have hfirst : ramFirstPage r.ram (r.ctl0.toNat / 4 % 2) = p := by simp [ramFirstPage, hp]
    rw [hs, hw]
    exact ⟨romPage_bankNumber _ _ 0, romPage_bankNumber _ _ 1, romPage_bankNumber _ _ 0, romPage_bankNumber _ _ 1, rfl, rfl,
      fun hoff => by omega, fun _ _ => ⟨rfl, p, hp, hfirst, congrArg (· + 1) hfirst⟩⟩

theorem SegaBank.ctl_setCtl (r : SegaBank) (i : BitVec 2) (v : Byte) : (r.setCtl i v).ctl = r.ctl.set i.toNat v := by
  have hi : i = 0 ∨ i = 1 ∨ i = 2 ∨ i = 3 := by revert i; decide
  obtain rfl | rfl | rfl | rfl := hi <;> rfl

/-- The register a Sega control address names (20_memory R95). -/
theorem segaCtlIndex {a : Word} (ha : 0xFFFC ≤ a.toNat) : (a.extractLsb' 0 2).toNat = a.toNat - 0xFFFC := by
  have := a.isLt
  simp
  omega

/-- A Sega control write without write-through (20_memory R102). -/
theorem write_sega {m : Mapper} {r : SegaBank} (hb : m.bank = .sega r) {a : Word} (ha : 0xFFFC ≤ a.toNat) (v : Byte) :
    m.write false a v = m.controlWritten (.sega (r.setCtl (a.extractLsb' 0 2) v)) (a.toNat - 0xFFFC) v := by
  simp only [Mapper.write, hb, if_pos ha, Mapper.segaControlWrite, segaCtlIndex ha, Bool.false_eq_true, if_false]

/-- With write-through the ordinary path follows (20_memory R95). -/
theorem write_sega_through {m : Mapper} {r : SegaBank} (hb : m.bank = .sega r) {a : Word} (ha : 0xFFFC ≤ a.toNat) (v : Byte) :
    m.write true a v = (((m.write false a v).1.ordinaryWrite a v).1,
      (m.write false a v).2 ++ ((m.write false a v).1.ordinaryWrite a v).2) := by
  simp only [Mapper.write, hb, if_pos ha, Bool.false_eq_true, if_false, if_true]

/-- The Sega control addresses lie in slot 7. -/
theorem slotOf_sega {a : Word} (ha : 0xFFFC ≤ a.toNat) : slotOf a = 7 := by
  have hval := slotOf_val a
  have hlt := a.isLt
  apply Fin.ext
  rw [hval]
  show _ = 7
  omega

/-- Slot 7 maps system RAM, writable, whatever the registers hold (20_memory R100). -/
theorem segaRemap_slot7 {m : Mapper} {r : SegaBank} (ht : (m.slot, m.writable) = segaRemap m.romPages r) :
    m.slot[(7 : Fin 8)] = 0 ∧ m.writable.getLsbD (7 : Fin 8) = true := by
  cases hm : r.mapped with
  | none =>
    obtain ⟨hs, hw⟩ := Prod.mk.inj (ht.trans (segaRemap_off _ r hm))
    rw [hs, hw]; exact ⟨rfl, rfl⟩
  | some k =>
    obtain ⟨hs, hw⟩ := Prod.mk.inj (ht.trans (segaRemap_on _ r k hm))
    rw [hs, hw]; exact ⟨rfl, rfl⟩

theorem slot_sega {m : Mapper} {r : SegaBank} (ht : (m.slot, m.writable) = segaRemap m.romPages r) {a : Word}
    (ha : 0xFFFC ≤ a.toNat) : m.slot[slotOf a] = 0 ∧ m.writable.getLsbD (slotOf a) = true := by
  simpa only [slotOf_sega ha] using segaRemap_slot7 ht

/-- The ordinary path of a write at a Sega control address stores into system RAM (20_memory R95). -/
theorem ordinaryWrite_sega {m : Mapper} {r : SegaBank} (ht : (m.slot, m.writable) = segaRemap m.romPages r) {a : Word}
    (ha : 0xFFFC ≤ a.toNat) (v : Byte) :
    m.ordinaryWrite a v = (m.setPageByte 0 (offsetOf a) v, [.write a 0 (offsetOf a) v]) := by
  obtain ⟨h0, hw⟩ := slot_sega ht ha
  simp only [Mapper.ordinaryWrite, h0, hw, if_true]

/-- A bank is to be allocated, on numbers (20_memory R100, R104). -/
theorem SegaBank.mapped_unallocated_iff (r : SegaBank) (k : Nat) :
    (r.mapped = some k ∧ r.ram[k]? = some none) ↔
      k = r.ctl0.toNat / 4 % 2 ∧ r.ctl0.toNat / 8 % 2 = 1 ∧ r.ram[r.ctl0.toNat / 4 % 2]? = some none := by
  rw [r.mapped_eq_some]
  constructor
  · rintro ⟨⟨h8, rfl, -⟩, hk⟩; exact ⟨rfl, h8, hk⟩
  · rintro ⟨rfl, h8, hk⟩; exact ⟨⟨h8, rfl, (List.getElem?_eq_some_iff.mp hk).1⟩, hk⟩

/-- A control write on the Sega variant, its register written (20_memory R100, R102, R104). -/
theorem controlWritten_sega (m : Mapper) (r : SegaBank) (i : Nat) (v : Byte) :
    let w := m.controlWritten (.sega r) i v
    ∃ r', w.1.bank = .sega r' ∧ r'.ctl = r.ctl ∧ r'.ctl0 = r.ctl0 ∧ SegaTable w.1 r' ∧
      (r.ctl0.toNat / 8 % 2 = 1 ∧ r.ram[r.ctl0.toNat / 4 % 2]? = some none →
        w.1.pages = m.pages ++ [[], []] ∧ r'.ram = r.ram.set (r.ctl0.toNat / 4 % 2) (some m.pages.length) ∧
        w.2 = [.ramAllocated (r.ctl0.toNat / 4 % 2) m.pages.length, .controlWrite i v, .remap w.1.slot w.1.writable]) ∧
      (¬(r.ctl0.toNat / 8 % 2 = 1 ∧ r.ram[r.ctl0.toNat / 4 % 2]? = some none) →
        w.1.pages = m.pages ∧ r'.ram = r.ram ∧ w.2 = [.controlWrite i v, .remap w.1.slot w.1.writable]) := by
  refine ⟨{ r with ram := (allocate m.pages r.ram 2 r.mapped).2.1 }, rfl, rfl, rfl,
    segaTable_of_remap (remapped_table _) (controlWritten_mapped_allocated m (.sega r) i v), fun hon => ?_, fun hoff => ?_⟩
  · obtain ⟨hm, hk⟩ := (r.mapped_unallocated_iff _).mpr ⟨rfl, hon⟩
    obtain ⟨hpages, hbank, hev⟩ := controlWritten_allocating m (bank := .sega r) i v hm hk
    exact ⟨hpages, congrArg Bank.ram hbank, hev⟩
  · obtain ⟨hpages, hbank, hev⟩ := controlWritten_not_allocating m (bank := .sega r) i v fun k hm hk =>
      hoff ((r.mapped_unallocated_iff k).mp ⟨hm, hk⟩).2
    exact ⟨hpages, congrArg Bank.ram hbank, hev⟩

/-- The write-through half: the ordinary path after the control write `w` (20_memory R95). -/
theorem ordinaryWrite_after_sega {m w : Mapper} {r : SegaBank} (hb : w.bank = .sega r)
    (ht : (w.slot, w.writable) = remapOf w.romPages w.bank) (hbyte : ∀ p o, w.pageByte p o = m.pageByte p o) {a : Word}
    (ha : 0xFFFC ≤ a.toNat) (v : Byte) :
    let t := w.ordinaryWrite a v
    t.1 = { w with pages := t.1.pages } ∧ t.1.pages.length = w.pages.length ∧
      (∀ p o, (p, o) ≠ (0, a.toNat % 8192) → t.1.pageByte p o = m.pageByte p o) ∧
      (w.Inv → t.1.pageByte 0 (a.toNat % 8192) = v ∧ t.1.read a = v) ∧ t.2 = [.write a 0 (a.toNat % 8192) v] := by
  rw [hb] at ht
  have hpin : (w.setPageByte 0 (offsetOf a) v).pinned a = false := pinned_eq_false (.inl (by omega))
  have hsame (h : w.Inv) : (w.setPageByte 0 (offsetOf a) v).pageByte 0 (offsetOf a) = v :=
    pageByte_setPageByte_same w v (Nat.zero_lt_of_lt h.length) h.pages
  rw [ordinaryWrite_sega ht ha v, ← offsetOf_eq]
  refine ⟨rfl, List.length_modify .., fun p o hne => (pageByte_setPageByte w 0 _ p o v hne).trans (hbyte p o),
    fun h => ⟨hsame h, ?_⟩, rfl⟩
  unfold Mapper.read
  rw [resolve_of_not_pinned hpin]
  exact (congrArg (fun p => (w.setPageByte 0 (offsetOf a) v).pageByte p _) (slot_sega ht ha).1).trans (hsame h)

/-- Settles O30: the control write by `controlWritten_sega`, the ordinary path after it by `ordinaryWrite_after_sega`. -/
theorem segaControlWriteRule : Obligations.SegaControlWriteRule := by
  intro m r a v hb ha
  have hinv (h : m.Inv) : (m.write false a v).1.Inv := h.write false a v
  rw [write_sega_through hb ha v]
  rw [write_sega hb ha v] at hinv ⊢
  generalize hr1 : r.setCtl (a.extractLsb' 0 2) v = r1 at hinv ⊢
  have hctl : r1.ctl = r.ctl.set (a.toNat - 0xFFFC) v := by rw [← hr1, SegaBank.ctl_setCtl, segaCtlIndex ha]
  have hram : r1.ram = r.ram := by rw [← hr1, SegaBank.ram_setCtl]
  obtain ⟨r', hbank, hctl', hctl0, htable, hon, hoff⟩ := controlWritten_sega m r1 (a.toNat - 0xFFFC) v
  have hbyte := controlWritten_pageByte m (.sega r1) (a.toNat - 0xFFFC) v
  obtain ⟨hrest, hlen, hother, hread, hev⟩ := ordinaryWrite_after_sega hbank (remapped_table _) hbyte ha v
  rw [hram, ← hctl0] at hon hoff
  exact ⟨⟨r', _, hbank, hctl'.trans hctl, rfl, htable, rfl, hbyte, hon, hoff⟩, hrest, hlen, hother,
    fun h => hread (hinv h), congrArg _ hev⟩

/-! ### The Codemasters variant -/

/-- The remap function's table is the table of the rules (20_memory R93, R110). -/
theorem codemastersTable_of_remap {m : Mapper} {r : CodemastersBank} (ht : (m.slot, m.writable) = codemastersRemap m.romPages r)
    (ha : ∀ k, r.mapped = some k → ∃ p, r.ram[k]? = some (some p)) : CodemastersTable m r := by
  unfold CodemastersTable
  cases hm : r.mapped with
  | none =>
    obtain ⟨hs, hw⟩ := Prod.mk.inj (ht.trans (codemastersRemap_off _ r hm))
    have hnone : ∀ k, ¬_ := fun k hk => Option.some_ne_none k (((r.mapped_eq_some k).mpr hk).symm.trans hm)
    rw [hs, hw]
    exact ⟨romPage_bankNumber _ _ 0, romPage_bankNumber _ _ 1, romPage_bankNumber _ _ 0, romPage_bankNumber _ _ 1,
      romPage_bankNumber _ _ 0, rfl, rfl, fun _ => ⟨romPage_bankNumber _ _ 1, rfl⟩,
      fun hon hlt => (hnone _ ⟨hon, rfl, hlt⟩).elim⟩
  | some k =>
    obtain ⟨hs, hw⟩ := Prod.mk.inj (ht.trans (codemastersRemap_on _ r k hm))
    obtain ⟨hon, rfl, hlt⟩ := (r.mapped_eq_some k).mp hm
    obtain ⟨p, hp⟩ := ha _ hm
    have hfirst : ramFirstPage r.ram 0 = p := by simp [ramFirstPage, hp]
    rw [hs, hw]
    exact ⟨romPage_bankNumber _ _ 0, romPage_bankNumber _ _ 1, romPage_bankNumber _ _ 0, romPage_bankNumber _ _ 1,
      romPage_bankNumber _ _ 0, rfl, rfl, fun hoff => by omega, fun _ _ => ⟨rfl, p, hp, hfirst⟩⟩

theorem CodemastersBank.ctl_setCtl (r : CodemastersBank) {g : BitVec 2} (hg : g.toNat < 3) (v : Byte) :
    (r.setCtl g v).ctl = r.ctl.set g.toNat v := by
  have hg' : g = 0 ∨ g = 1 ∨ g = 2 := by revert g; decide
  obtain rfl | rfl | rfl := hg' <;> rfl

/-- A Codemasters control write; `SEGA_CTRL_WRITE_THROUGH` has no part in it (20_memory R95, R112). -/
theorem write_codemasters {m : Mapper} {r : CodemastersBank} (hb : m.bank = .codemasters r) (through : Bool) {g : Nat} (hg : g < 3)
    (v : Byte) : m.write through (trunc16 (0x4000 * g)) v =
      m.controlWritten (.codemasters (r.setCtl (BitVec.ofNat 2 g) v)) g v := by
  have ha : g = 0 ∨ g = 1 ∨ g = 2 := by omega
  unfold Mapper.write
  rw [hb]
  obtain rfl | rfl | rfl := ha <;> rfl

/-- A bank is to be allocated, on numbers (20_memory R104, R110). -/
theorem CodemastersBank.mapped_unallocated_iff (r : CodemastersBank) (k : Nat) :
    (r.mapped = some k ∧ r.ram[k]? = some none) ↔ k = 0 ∧ r.ctl1.toNat / 128 = 1 ∧ r.ram[0]? = some none := by
  rw [r.mapped_eq_some]
  constructor
  · rintro ⟨⟨h7, rfl, -⟩, hk⟩; exact ⟨rfl, h7, hk⟩
  · rintro ⟨rfl, h7, hk⟩; exact ⟨⟨h7, rfl, (List.getElem?_eq_some_iff.mp hk).1⟩, hk⟩

/-- A control write on the Codemasters variant, its register written (20_memory R104, R110, R112). -/
theorem controlWritten_codemasters (m : Mapper) (r : CodemastersBank) (i : Nat) (v : Byte) :
    let w := m.controlWritten (.codemasters r) i v
    ∃ r', w.1.bank = .codemasters r' ∧ r'.ctl = r.ctl ∧ r'.ctl1 = r.ctl1 ∧ CodemastersTable w.1 r' ∧
      (r.ctl1.toNat / 128 = 1 ∧ r.ram[0]? = some none →
        w.1.pages = m.pages ++ [[]] ∧ r'.ram = r.ram.set 0 (some m.pages.length) ∧
        w.2 = [.ramAllocated 0 m.pages.length, .controlWrite i v, .remap w.1.slot w.1.writable]) ∧
      (¬(r.ctl1.toNat / 128 = 1 ∧ r.ram[0]? = some none) →
        w.1.pages = m.pages ∧ r'.ram = r.ram ∧ w.2 = [.controlWrite i v, .remap w.1.slot w.1.writable]) := by
  refine ⟨{ r with ram := (allocate m.pages r.ram 1 r.mapped).2.1 }, rfl, rfl, rfl,
    codemastersTable_of_remap (remapped_table _) (controlWritten_mapped_allocated m (.codemasters r) i v),
    fun hon => ?_, fun hoff => ?_⟩
  · obtain ⟨hm, hk⟩ := (r.mapped_unallocated_iff 0).mpr ⟨rfl, hon⟩
    obtain ⟨hpages, hbank, hev⟩ := controlWritten_allocating m (bank := .codemasters r) i v hm hk
    exact ⟨hpages, congrArg Bank.ram hbank, hev⟩
  · obtain ⟨hpages, hbank, hev⟩ := controlWritten_not_allocating m (bank := .codemasters r) i v fun k hm hk =>
      hoff ((r.mapped_unallocated_iff k).mp ⟨hm, hk⟩).2
    exact ⟨hpages, congrArg Bank.ram hbank, hev⟩

/-- Settles O31: the write is a control write of register `g`, `controlWritten_codemasters`. -/
theorem codemastersControlWriteRule : Obligations.CodemastersControlWriteRule := by
  intro m m' ev r through g v hb hg hw
  rw [write_codemasters hb through hg v] at hw
  obtain ⟨rfl, rfl⟩ := Prod.mk.inj hw
  have hg2 : (BitVec.ofNat 2 g).toNat = g := by simp; omega
  have hctl : (r.setCtl (BitVec.ofNat 2 g) v).ctl = r.ctl.set g v := by rw [CodemastersBank.ctl_setCtl r (by omega) v, hg2]
  obtain ⟨r', hbank, hctl', hctl1, htable, hon, hoff⟩ := controlWritten_codemasters m (r.setCtl (BitVec.ofNat 2 g) v) g v
  rw [CodemastersBank.ram_setCtl, ← hctl1] at hon hoff
  exact ⟨r', hbank, hctl'.trans hctl, htable, rfl, controlWritten_pageByte m _ g v, hon, hoff⟩

end Sys2Proof.Machine
end

section
/-! The pinned boot window of the Sega variant (20_memory R103): no step changes the variant, and the window reads the first ROM page. -/

namespace Sys2Proof.Machine

/-! ### The variant -/

/-- The variant, told by how many pages a cartridge RAM bank takes (10_state R43, R44). -/
theorem Bank.ramPages_eq_two_iff (b : Bank) : b.ramPages = 2 ↔ ∃ r, b = .sega r := by
  cases b <;> simp [Bank.ramPages]

/-- The control registers and `cart_ram` after a write: as before, or those of a control write (20_memory R95, R102, R112). -/
theorem write_bank_cases (m : Mapper) (thr : Bool) (a : Word) (v : Byte) :
    (m.write thr a v).1.bank = m.bank ∨
    ∃ bank i, bank.ram = m.bank.ram ∧ bank.ramPages = m.bank.ramPages ∧
      (m.write thr a v).1.bank = (m.controlWritten bank i v).1.bank := by
  have ho : ∀ m' : Mapper, (m'.ordinaryWrite a v).1.bank = m'.bank := fun m' => (ordinaryWrite_frame m' a v).2.2.1
  obtain he | ⟨bank, i, hram, hpages, -, he | he⟩ := write_cases m thr a v
  · exact .inl (by rw [he, ho])
  · exact .inr ⟨bank, i, hram, hpages, by rw [he]⟩
  · exact .inr ⟨bank, i, hram, hpages, by rw [he, ho]⟩

/-- No write changes the variant (10_state R59). -/
theorem write_ramPages (m : Mapper) (thr : Bool) (a : Word) (v : Byte) : (m.write thr a v).1.bank.ramPages = m.bank.ramPages := by
  obtain he | ⟨bank, i, -, hpages, he⟩ := write_bank_cases m thr a v
  · rw [he]
  · rw [he, controlWritten_bank, Bank.ramPages_withRam, hpages]

/-- No move changes the variant (10_state R59). -/
theorem Together.ramPages {s s' u u' : State} (h : Together s s' u u') : u.mapper.bank.ramPages = s.mapper.bank.ramPages := by
  induction h with
  | start => rfl
  | regs _ _ ih | tick _ _ ih | draw _ ih => exact ih
  | store a v _ ih => rw [State.memWrite_mapper, write_ramPages, ih]
  | input port _ ih => rwa [ioRead_mapper]
  | output port v _ ih => rwa [ioWrite_mapper]
  | @line u _ _ ih => rwa [u.vdpLineStep_frame]

/-- A Sega session stays one (10_state R59). -/
theorem Together.sega {s s' u u' : State} {r : SegaBank} (h : Together s s' u u') (hb : s.mapper.bank = .sega r) :
    ∃ r', u.mapper.bank = .sega r' := by
  rw [← Bank.ramPages_eq_two_iff, h.ramPages, Bank.ramPages_eq_two_iff]
  exact ⟨r, hb⟩

/-! ### The window -/

/-- In the pinned window an address reads the first ROM page (20_memory R103). -/
theorem read_pinned {m : Mapper} {r : SegaBank} {a : Word} (hb : m.bank = .sega r) (ha : a.toNat < 0x400) :
    m.read a = m.pageByte 1 a.toNat := by
  have hpin : m.pinned a = true := by
    unfold Mapper.pinned
    rw [hb]
    exact decide_eq_true ha
  unfold Mapper.read Mapper.resolve
  rw [if_pos hpin]

/-- Settles O16: every step keeps the variant, `Together.sega`, and the first ROM page, `Together.rom`. -/
theorem bootWindowIsPinned : Obligations.BootWindowIsPinned := by
  intro s t r a hs hb ha h
  have hmoves := (step_performs h).together
  obtain ⟨r', hb'⟩ := hmoves.sega hb
  have hwindow : s.memRead a = s.mapper.pageByte 1 a.toNat := read_pinned hb ha
  refine ⟨hwindow, ?_⟩
  calc t.memRead a = t.mapper.pageByte 1 a.toNat := read_pinned hb' ha
    _ = s.mapper.pageByte 1 a.toNat := (hmoves.rom hs).2 1 a.toNat (Nat.le_refl 1) hs.mapper.rom
    _ = s.memRead a := hwindow.symm

end Sys2Proof.Machine
end

section
/-! Ordinary writes (20_memory R89, R95, R96): what a write at an address that is no control address stores, and what reads back. -/

namespace Sys2Proof.Machine

/-- Where an address resolves depends on the variant and the slot table alone (20_memory R94). -/
theorem resolve_congr {m m' : Mapper} (hb : m'.bank = m.bank) (hs : m'.slot = m.slot) (a : Word) : m'.resolve a = m.resolve a := by
  have hpin : m'.pinned a = m.pinned a := by unfold Mapper.pinned; rw [hb]
  unfold Mapper.resolve
  rw [hpin, hs]

/-- An ordinary write moves no address (20_memory R89, R95). -/
theorem ordinaryWrite_resolve (m : Mapper) (a : Word) (v : Byte) (b : Word) : (m.ordinaryWrite a v).1.resolve b = m.resolve b := by
  obtain ⟨hs, -, hb, -, -⟩ := ordinaryWrite_frame m a v
  exact resolve_congr hb hs b

/-- An ordinary write leaves every address that does not resolve to the byte stored as it was (20_memory R89). -/
theorem ordinaryWrite_read (m : Mapper) (a : Word) (v : Byte) (b : Word) (h : m.storeTarget a ≠ some (m.resolve b)) :
    (m.ordinaryWrite a v).1.read b = m.read b := by
  unfold Mapper.read
  rw [ordinaryWrite_resolve]
  exact ordinaryWrite_pageByte m a v _ _ h

/-- An ordinary write into a writable slot (20_memory R95). -/
theorem ordinaryWrite_writable {m : Mapper} {a : Word} (hw : m.writable.getLsbD (slotOf a) = true) (v : Byte) :
    m.ordinaryWrite a v = (m.setPageByte m.slot[slotOf a] (offsetOf a) v, [.write a m.slot[slotOf a] (offsetOf a) v]) := by
  simp only [Mapper.ordinaryWrite, hw, if_true]

/-- An ordinary write into any other slot is discarded (20_memory R95). -/
theorem ordinaryWrite_discarded {m : Mapper} {a : Word} (hw : m.writable.getLsbD (slotOf a) = false) (v : Byte) :
    m.ordinaryWrite a v = (m, [.invalidWrite a v]) := by
  simp only [Mapper.ordinaryWrite, hw, Bool.false_eq_true, if_false]

/-- The byte stored into a writable slot (20_memory R81, R95). -/
theorem ordinaryWrite_pageByte_same {m : Mapper} (h : m.Inv) {a : Word} (hw : m.writable.getLsbD (slotOf a) = true) (v : Byte) :
    (m.ordinaryWrite a v).1.pageByte m.slot[slotOf a] (offsetOf a) = v := by
  rw [ordinaryWrite_writable hw]
  exact pageByte_setPageByte_same m v (h.slot_lt _) h.pages

/-- Slot 0 is not writable on the Sega variant (20_memory R100). -/
theorem segaRemap_slot0 (n : Nat) (r : SegaBank) : (segaRemap n r).2.getLsbD 0 = false := by
  cases hm : r.mapped with
  | none => simp [segaRemap_off n r hm]
  | some k => simp [segaRemap_on n r k hm]

/-- A writable slot holds no pinned address (20_memory R100, R103). -/
theorem Mapper.Inv.not_pinned_of_writable {m : Mapper} (h : m.Inv) {a : Word} (hw : m.writable.getLsbD (slotOf a) = true) :
    m.pinned a = false := by
  obtain hge | hlt := (Nat.lt_or_ge a.toNat 0x400).symm
  · exact pinned_eq_false (.inl hge)
  · cases hb : m.bank with
    | codemasters r => exact pinned_eq_false (.inr ⟨r, hb⟩)
    | sega r =>
      have hslot : (slotOf a).val = 0 := by rw [slotOf_val]; omega
      have hmask : m.writable = (segaRemap m.romPages r).2 := by
        have := (Prod.mk.inj h.table).2
        rwa [hb] at this
      rw [hslot, hmask, segaRemap_slot0] at hw
      cases hw

/-- What an ordinary write stores reads back at its address (20_memory R89, R95). -/
theorem ordinaryWrite_read_same {m : Mapper} (h : m.Inv) {a : Word} (hw : m.writable.getLsbD (slotOf a) = true) (v : Byte) :
    (m.ordinaryWrite a v).1.read a = v := by
  unfold Mapper.read
  rw [ordinaryWrite_resolve, resolve_of_not_pinned (h.not_pinned_of_writable hw)]
  exact ordinaryWrite_pageByte_same h hw v

/-- Settles O29: the write is the ordinary path, `ordinaryWrite_writable` or `ordinaryWrite_discarded`. -/
theorem ordinaryWriteRule : Obligations.OrdinaryWriteRule := by
  intro m through a v h ha
  rw [write_ordinary m through a v ha, ← slotOf_val, ← offsetOf_eq]
  refine ⟨fun hw => ?_, fun hw => ordinaryWrite_discarded hw v⟩
  have htarget : m.storeTarget a = some (m.slot[slotOf a], offsetOf a) := if_pos hw
  obtain ⟨hs, hwr, hb, -, hl⟩ := ordinaryWrite_frame m a v
  refine ⟨ordinaryWrite_read_same h hw v, fun p o hne => ?_, fun b hne => ?_, hs, hwr, hb, hl,
    congrArg Prod.snd (ordinaryWrite_writable hw v)⟩
  · exact ordinaryWrite_pageByte m a v p o fun he => hne (Option.some.inj (he.symm.trans htarget))
  · exact ordinaryWrite_read m a v b fun he => hne (Option.some.inj (he.symm.trans htarget))

end Sys2Proof.Machine
end

section
/-! Control writes on both variants (20_memory R95, R102, R112): which register an address names, what the write makes of the mapper, and
that writing the same byte again, or a byte that is there already, changes nothing. -/

namespace Sys2Proof.Machine

/-- The control addresses of the Sega variant (20_memory R95). -/
theorem isControl_sega {m : Mapper} {r : SegaBank} (hb : m.bank = .sega r) {a : Word} :
    m.isControl a = true ↔ 0xFFFC ≤ a.toNat := by simp [Mapper.isControl, hb]

/-- The control addresses of the Codemasters variant (20_memory R95). -/
theorem isControl_codemasters {m : Mapper} {r : CodemastersBank} (hb : m.bank = .codemasters r) {a : Word} :
    m.isControl a = true ↔ a ∈ [0x0000, 0x4000, 0x8000] := by simp [Mapper.isControl, hb, or_assoc]

/-- The register at a control address written (20_memory R95, R102, R112). -/
def Bank.setCtl (b : Bank) (a : Word) (v : Byte) : Bank :=
  match b with
  | .sega r => .sega (r.setCtl (a.extractLsb' 0 2) v)
  | .codemasters r => .codemasters (r.setCtl (a.extractLsb' 14 2) v)

@[simp] theorem Bank.ram_setCtl (b : Bank) (a : Word) (v : Byte) : (b.setCtl a v).ram = b.ram := by
  cases b with
  | sega r => exact r.ram_setCtl _ v
  | codemasters r => exact r.ram_setCtl _ v

@[simp] theorem Bank.ramPages_setCtl (b : Bank) (a : Word) (v : Byte) : (b.setCtl a v).ramPages = b.ramPages := by cases b <;> rfl

theorem SegaBank.setCtl_setCtl (r : SegaBank) (ram : List (Option Nat)) (i : BitVec 2) (v : Byte) :
    SegaBank.setCtl { r.setCtl i v with ram := ram } i v = { r.setCtl i v with ram := ram } := by
  have hi : i = 0 ∨ i = 1 ∨ i = 2 ∨ i = 3 := by revert i; decide
  obtain rfl | rfl | rfl | rfl := hi <;> rfl

theorem CodemastersBank.setCtl_setCtl (r : CodemastersBank) (ram : List (Option Nat)) (g : BitVec 2) (v : Byte) :
    CodemastersBank.setCtl { r.setCtl g v with ram := ram } g v = { r.setCtl g v with ram := ram } := by
  have hg : g = 0 ∨ g = 1 ∨ g = 2 ∨ g = 3 := by revert g; decide
  obtain rfl | rfl | rfl | rfl := hg <;> rfl

/-- The register written holds the byte already when it is written again, whatever became of `cart_ram` (20_memory R102, R112). -/
theorem Bank.setCtl_withRam_setCtl (b : Bank) (ram : List (Option Nat)) (a : Word) (v : Byte) :
    ((b.setCtl a v).withRam ram).setCtl a v = (b.setCtl a v).withRam ram := by
  cases b with
  | sega r => exact congrArg Bank.sega (r.setCtl_setCtl ram _ v)
  | codemasters r => exact congrArg Bank.codemasters (r.setCtl_setCtl ram _ v)

/-- Of a control write the index and the byte go into the events alone (20_memory R96, R102). -/
theorem controlWritten_index (m : Mapper) (bank : Bank) (i j : Nat) (v : Byte) :
    (m.controlWritten bank i v).1 = (m.controlWritten bank j v).1 := rfl

/-- A control write without write-through (20_memory R95, R102, R112). -/
theorem write_control {m : Mapper} {a : Word} (ha : m.isControl a = true) (i : Nat) (v : Byte) :
    (m.write false a v).1 = (m.controlWritten (m.bank.setCtl a v) i v).1 := by
  cases hb : m.bank with
  | sega r =>
    rw [write_sega hb ((isControl_sega hb).mp ha) v]
    exact controlWritten_index m _ _ i v
  | codemasters r =>
    have hctl : a = 0x0000 ∨ a = 0x4000 ∨ a = 0x8000 := by simpa using (isControl_codemasters hb).mp ha
    simp only [Mapper.write, hb, if_pos hctl]
    exact controlWritten_index m _ _ i v

/-- Where a control write also goes the ordinary path: on the Sega variant with `SEGA_CTRL_WRITE_THROUGH` (20_memory R95). -/
theorem write_control_through {m : Mapper} {a : Word} (ha : m.isControl a = true) (thr : Bool) (v : Byte) :
    (m.write thr a v).1 = (m.write false a v).1 ∨
      ((∃ r, m.bank = .sega r) ∧ 0xFFFC ≤ a.toNat ∧ thr = true ∧
        (m.write thr a v).1 = ((m.write false a v).1.ordinaryWrite a v).1) := by
  cases thr with
  | false => exact .inl rfl
  | true =>
    cases hb : m.bank with
    | sega r =>
      have hge : 0xFFFC ≤ a.toNat := (isControl_sega hb).mp ha
      exact .inr ⟨⟨r, rfl⟩, hge, rfl, by rw [write_sega_through hb hge v]⟩
    | codemasters r => exact .inl (by simp only [Mapper.write, hb])

/-- After a control write the register at its address holds the byte (20_memory R102, R112). -/
theorem write_control_bank {m : Mapper} {a : Word} (ha : m.isControl a = true) (thr : Bool) (v : Byte) :
    (m.write thr a v).1.bank =
      (m.bank.setCtl a v).withRam (allocate m.pages m.bank.ram m.bank.ramPages (m.bank.setCtl a v).mapped).2.1 := by
  have hctl : (m.write false a v).1.bank = _ := congrArg Mapper.bank (write_control ha 0 v)
  rw [controlWritten_bank, Bank.ram_setCtl, Bank.ramPages_setCtl] at hctl
  obtain he | ⟨-, -, -, he⟩ := write_control_through ha thr v
  · rw [he, hctl]
  · rw [he, (ordinaryWrite_frame ..).2.2.1, hctl]

/-- The same byte written once more leaves the register as the control write left it (20_memory R102, R112). -/
theorem write_control_setCtl {m : Mapper} {a : Word} (ha : m.isControl a = true) (thr : Bool) (v : Byte) :
    (m.write thr a v).1.bank.setCtl a v = (m.write thr a v).1.bank := by
  rw [write_control_bank ha thr v, Bank.setCtl_withRam_setCtl]

/-- Which addresses are control addresses depends on the variant alone (20_memory R95). -/
theorem isControl_congr {m m' : Mapper} (h : m'.bank.ramPages = m.bank.ramPages) (a : Word) : m'.isControl a = m.isControl a := by
  unfold Mapper.isControl
  cases hb : m.bank with
  | sega r =>
    rw [hb] at h
    obtain ⟨r', hb'⟩ := m'.bank.ramPages_eq_two_iff.mp h
    rw [hb']
  | codemasters r =>
    cases hb' : m'.bank with
    | sega r' => rw [hb, hb'] at h; cases h
    | codemasters r' => rfl

/-- No write changes which addresses are control addresses (10_state R59; 20_memory R95). -/
@[simp] theorem write_isControl (m : Mapper) (thr : Bool) (a : Word) (v : Byte) (b : Word) :
    (m.write thr a v).1.isControl b = m.isControl b := isControl_congr (write_ramPages m thr a v) b

/-! ### Control writes that change nothing -/

/-- Writing the registers as they are changes nothing when the table and the mask are the remap function's and the bank mapped has RAM
(20_memory R102, R112). -/
theorem controlWritten_self {m : Mapper} (ht : (m.slot, m.writable) = remapOf m.romPages m.bank)
    (hram : ∀ k, m.bank.mapped = some k → ∃ p, m.bank.ram[k]? = some (some p)) (i : Nat) (v : Byte) :
    (m.controlWritten m.bank i v).1 = m := by
  obtain ⟨hpages, hbank, -⟩ := controlWritten_not_allocating m i v fun k hk hnone => by
    obtain ⟨p, hp⟩ := hram k hk
    rw [hp] at hnone
    cases hnone
  calc (m.controlWritten m.bank i v).1
    _ = (Mapper.remapped { m with
          pages := (m.controlWritten m.bank i v).1.pages
          bank := (m.controlWritten m.bank i v).1.bank }).1 := rfl
    _ = m.remapped.1 := by rw [hpages, hbank]
    _ = m := by unfold Mapper.remapped; rw [← ht]

/-- A byte written where it is already leaves a canonical memory as it is (10_state R45). -/
theorem Memory.write_read_self {size lo : Nat} {m : Memory} (h : Memory.wfFrom size lo m = true) (a : Nat) :
    Memory.write m a (Memory.read m a) = m := by
  induction m generalizing lo with
  | nil => rfl
  | cons c rest ih =>
    obtain ⟨k, w⟩ := c
    have hwf := h
    simp only [Memory.wfFrom, Bool.and_eq_true, decide_eq_true_eq] at hwf
    obtain ⟨⟨-, hw⟩, hrest⟩ := hwf
    obtain hlt | rfl | hgt := Nat.lt_trichotomy a k
    · have habsent : Memory.read ((k, w) :: rest) a = memoryDefault := by
        rw [Memory.read, if_neg (by omega), Memory.read_below hrest (by omega)]
      rw [habsent, Memory.write, if_pos hlt, Memory.put, if_pos rfl]
    · rw [Memory.read, if_pos rfl, Memory.write, if_neg (by omega), if_pos rfl, Memory.put, if_neg hw]
    · rw [Memory.read, if_neg (by omega), Memory.write, if_neg (by omega), if_neg (by omega), ih hrest]

/-- A byte stored where it is already changes nothing (20_memory R81, R95). -/
theorem setPageByte_self {m : Mapper} (h : m.Inv) (p o : Nat) : m.setPageByte p o (m.pageByte p o) = m := by
  have hpages : m.pages.modify p (fun page => Memory.write page o (m.pageByte p o)) = m.pages := by
    apply List.ext_getElem?
    intro q
    rw [List.getElem?_modify]
    by_cases hq : p = q
    · subst hq
      cases hp : m.pages[p]? with
      | none => rfl
      | some page =>
        have hwf := h.pages page (List.mem_of_getElem? hp)
        simp [Mapper.pageByte, List.getD_eq_getElem?_getD, hp, Memory.write_read_self hwf]
    · simp [hq]
  unfold Mapper.setPageByte
  rw [hpages]

/-- The ordinary path of a byte its address reads already changes nothing (20_memory R95). -/
theorem ordinaryWrite_self {m : Mapper} (h : m.Inv) {a : Word} (hpin : m.pinned a = false) :
    (m.ordinaryWrite a (m.read a)).1 = m := by
  cases hw : m.writable.getLsbD (slotOf a) with
  | false => rw [ordinaryWrite_discarded hw]
  | true =>
    rw [ordinaryWrite_writable hw]
    unfold Mapper.read
    rw [resolve_of_not_pinned hpin]
    exact setPageByte_self h _ _

/-- A control write of what the register holds changes nothing; one that also goes the ordinary path, if its address holds the byte too
(20_memory R95, R102, R115). -/
theorem Mapper.Inv.write_self {m : Mapper} (h : m.Inv) {thr : Bool} {a : Word} {v : Byte} (ha : m.isControl a = true)
    (hctl : m.bank.setCtl a v = m.bank) (hread : thr = false ∨ m.read a = v ∨ ∃ r, m.bank = .codemasters r) :
    (m.write thr a v).1 = m := by
  have hself : (m.write false a v).1 = m := by rw [write_control ha 0 v, hctl, controlWritten_self h.table h.bank.allocated]
  obtain he | ⟨⟨r, hb⟩, hge, hthr, he⟩ := write_control_through ha thr v
  · exact he.trans hself
  · obtain hf | rfl | ⟨r', hb'⟩ := hread
    · rw [hthr] at hf; cases hf
    · rw [he, hself, ordinaryWrite_self h (pinned_eq_false (.inl (by omega)))]
    · rw [hb] at hb'; cases hb'

/-- A control write without write-through made twice (20_memory R102, R112). -/
theorem write_twice {m : Mapper} {a : Word} (ha : m.isControl a = true) (v : Byte) :
    ((m.write false a v).1.write false a v).1 = (m.write false a v).1 := by
  rw [write_control (by rwa [write_isControl]) 0 v, write_control_setCtl ha, write_control ha 0 v]
  exact controlWritten_self (remapped_table _) (controlWritten_mapped_allocated m _ 0 v) 0 v

/-- A control write made twice under the invariants (20_memory R95, R102, R112). -/
theorem Mapper.Inv.write_twice {m : Mapper} (h : m.Inv) (thr : Bool) {a : Word} (ha : m.isControl a = true) (v : Byte) :
    ((m.write thr a v).1.write thr a v).1 = (m.write thr a v).1 := by
  refine (h.write thr a v).write_self (by rwa [write_isControl]) (write_control_setCtl ha thr v) ?_
  obtain ⟨r, hb⟩ | ⟨r, hb⟩ : (∃ r, m.bank = .sega r) ∨ ∃ r, m.bank = .codemasters r := by cases m.bank <;> simp
  · cases thr with
    | false => exact .inl rfl
    | true =>
      have hge : 0xFFFC ≤ a.toNat := (isControl_sega hb).mp ha
      obtain ⟨-, -, -, -, hread, -⟩ := segaControlWriteRule m r a v hb hge
      exact .inr (.inl (hread h).2)
  · exact .inr (.inr ⟨_, by rw [write_control_bank ha thr v, hb]; rfl⟩)

/-- Settles O32: the second write finds its register as it is, `write_twice`; unchanged registers leave the mapper as it is,
`Mapper.Inv.write_self`. -/
theorem controlWriteIdempotent : Obligations.ControlWriteIdempotent := by
  intro m through a v ha
  refine ⟨fun hthr => ?_, fun h hbank hread => h.write_self ha ?_ hread⟩
  · obtain rfl | h := hthr
    · exact write_twice ha v
    · exact h.write_twice through ha v
  · rw [← hbank]
    exact write_control_setCtl ha through v

end Sys2Proof.Machine
end

section
/-! Cartridge RAM across bank switches (20_memory R104, R110, R115): where the mapped bank is read and written, and that control writes
neither move an allocated bank nor change a byte of it. -/

namespace Sys2Proof.Machine

/-! ### Where a cartridge RAM bank is mapped -/

/-- The first slot of the cartridge RAM window, which ends at slot 5: slots 4 and 5 on Sega, slot 5 on Codemasters
(20_memory R100, R110). -/
def Bank.ramSlot (b : Bank) : Nat := 6 - b.ramPages

/-- A slot of the cartridge RAM window (20_memory R100, R110). -/
def Bank.inRamWindow (b : Bank) (i : Fin 8) : Prop := b.ramSlot ≤ i.val ∧ i.val < 6

/-- In the window the remap function maps the pages of the selected bank, one after the other and writable (20_memory R100, R110). -/
theorem remapOf_ramWindow (n : Nat) {b : Bank} {k p : Nat} (hk : b.mapped = some k) (hp : b.ram[k]? = some (some p)) {i : Fin 8}
    (hi : b.inRamWindow i) : (remapOf n b).1[i] = p + (i.val - b.ramSlot) ∧ (remapOf n b).2.getLsbD i = true := by
  have hfirst : ramFirstPage b.ram k = p := by simp [ramFirstPage, hp]
  obtain ⟨hlo, hhi⟩ := hi
  cases b with
  | sega r =>
    rw [show remapOf n (.sega r) = _ from segaRemap_on n r k hk, show ramFirstPage r.ram k = p from hfirst]
    have hslot : i = 4 ∨ i = 5 := by
      simp only [Bank.ramSlot, Bank.ramPages] at hlo hhi
      omega
    obtain rfl | rfl := hslot
    · exact ⟨rfl, by simp⟩
    · exact ⟨rfl, by simp⟩
  | codemasters r =>
    rw [show remapOf n (.codemasters r) = _ from codemastersRemap_on n r k hk, show ramFirstPage r.ram k = p from hfirst]
    obtain rfl : i = 5 := by
      simp only [Bank.ramSlot, Bank.ramPages] at hlo hhi
      omega
    exact ⟨rfl, by simp⟩

/-- The page a slot of the window is mapped to, writable (20_memory R100, R110). -/
theorem Mapper.Inv.ramWindow {m : Mapper} (h : m.Inv) {k p : Nat} (hk : m.bank.mapped = some k)
    (hp : m.bank.ram[k]? = some (some p)) {i : Fin 8} (hi : m.bank.inRamWindow i) :
    m.slot[i] = p + (i.val - m.bank.ramSlot) ∧ m.writable.getLsbD i = true := by
  obtain ⟨hs, hw⟩ := Prod.mk.inj h.table
  rw [hs, hw]
  exact remapOf_ramWindow _ hk hp hi

/-! ### What control writes leave alone -/

/-- No write moves a bank that has its RAM (10_state R44; 20_memory R104). -/
theorem write_ram_allocated {m : Mapper} (thr : Bool) (a : Word) (v : Byte) {k p : Nat} (hp : m.bank.ram[k]? = some (some p)) :
    (m.write thr a v).1.bank.ram[k]? = some (some p) := by
  obtain he | ⟨bank, i, hram, -, he⟩ := write_bank_cases m thr a v
  · rw [he, hp]
  · rw [he, controlWritten_bank, Bank.ram_withRam, allocate_ram, hram, if_neg (by simp [hp]), hp]

/-- No write changes the number of cartridge RAM banks (10_state R44). -/
theorem write_ram_length (m : Mapper) (thr : Bool) (a : Word) (v : Byte) :
    (m.write thr a v).1.bank.ram.length = m.bank.ram.length := by
  obtain he | ⟨bank, i, hram, -, he⟩ := write_bank_cases m thr a v
  · rw [he]
  · rw [he, controlWritten_bank, Bank.ram_withRam, allocate_ram_length, hram]

/-- A control write changes no byte outside system RAM, with and without write-through (20_memory R95, R102, R112). -/
theorem write_control_pageByte {m : Mapper} {a : Word} (ha : m.isControl a = true) (thr : Bool) (v : Byte) {p : Nat} (hp : p ≠ 0)
    (o : Nat) : (m.write thr a v).1.pageByte p o = m.pageByte p o := by
  have hctl : (m.write false a v).1.pageByte p o = m.pageByte p o := by rw [write_control ha 0 v, controlWritten_pageByte]
  obtain he | ⟨⟨r, hb⟩, hge, rfl, -⟩ := write_control_through ha thr v
  · rw [he, hctl]
  · obtain ⟨-, -, -, hother, -⟩ := segaControlWriteRule m r a v hb hge
    exact hother p o fun heq => hp (Prod.mk.inj heq).1

/-- Control writes leave an allocated bank where it is, and every byte outside system RAM (20_memory R104, R115). -/
theorem storeAll_control {m : Mapper} (thr : Bool) (ws : List (Word × Byte)) (hws : ∀ w ∈ ws, m.isControl w.1 = true) {k p q : Nat}
    (hp : m.bank.ram[k]? = some (some p)) (hq : q ≠ 0) (o : Nat) :
    (storeAll thr m ws).bank.ram[k]? = some (some p) ∧ (storeAll thr m ws).pageByte q o = m.pageByte q o := by
  induction ws generalizing m with
  | nil => exact ⟨hp, rfl⟩
  | cons w rest ih =>
    obtain ⟨hw, hrest⟩ := List.forall_mem_cons.mp hws
    obtain ⟨hram, hbyte⟩ := ih (m := (m.write thr w.1 w.2).1) (fun x hx => by rw [write_isControl, hrest x hx])
      (write_ram_allocated thr w.1 w.2 hp)
    exact ⟨hram, hbyte.trans (write_control_pageByte hw thr w.2 hq o)⟩

/-- No list of writes changes the variant or the number of cartridge RAM banks (10_state R44, R59). -/
theorem storeAll_bank (thr : Bool) (m : Mapper) (ws : List (Word × Byte)) :
    (storeAll thr m ws).bank.ramPages = m.bank.ramPages ∧ (storeAll thr m ws).bank.ram.length = m.bank.ram.length := by
  induction ws generalizing m with
  | nil => exact ⟨rfl, rfl⟩
  | cons w rest ih =>
    obtain ⟨hpages, hlen⟩ := ih (m.write thr w.1 w.2).1
    exact ⟨hpages.trans (write_ramPages m thr w.1 w.2), hlen.trans (write_ram_length m thr w.1 w.2)⟩

/-- A byte stored into the mapped bank is read again whenever control writes have mapped that bank again (20_memory R104, R115). -/
theorem cartRam_read_back {m : Mapper} (h : m.Inv) {k : Nat} (hk : m.bank.mapped = some k) {a : Word}
    (ha : m.bank.inRamWindow (slotOf a)) (hord : m.isControl a = false) (thr : Bool) (v : Byte) {ws : List (Word × Byte)}
    (hws : ∀ w ∈ ws, m.isControl w.1 = true) (hk' : (storeAll thr m ((a, v) :: ws)).bank.mapped = some k) :
    (storeAll thr m ((a, v) :: ws)).read a = v := by
  obtain ⟨p, hp⟩ := h.bank.allocated k hk
  obtain ⟨hslot, hw⟩ := h.ramWindow hk hp ha
  have hpos : m.slot[slotOf a] ≠ 0 := by
    have hrom := (h.bank.inRange (some p) (List.mem_of_getElem? hp)).1
    omega
  have hstored : (m.write thr a v).1.pageByte m.slot[slotOf a] (offsetOf a) = v := by
    rw [write_ordinary m thr a v hord]
    exact ordinaryWrite_pageByte_same h hw v
  obtain ⟨hram, hbyte⟩ := storeAll_control (m := (m.write thr a v).1) thr ws (fun w hw => by rw [write_isControl, hws w hw])
    (write_ram_allocated thr a v hp) hpos (offsetOf a)
  have hinv : (storeAll thr m ((a, v) :: ws)).Inv := h.storeAll thr _
  have hpages := (storeAll_bank thr m ((a, v) :: ws)).1
  have hfirst : (storeAll thr m ((a, v) :: ws)).bank.ramSlot = m.bank.ramSlot := by unfold Bank.ramSlot; rw [hpages]
  obtain ⟨hslot', hw'⟩ := hinv.ramWindow hk' hram (i := slotOf a) (by unfold Bank.inRamWindow; rwa [hfirst])
  unfold Mapper.read
  rw [resolve_of_not_pinned (hinv.not_pinned_of_writable hw'), hslot', hfirst, ← hslot]
  exact hbyte.trans hstored

/-- The bank a Sega control byte selects is selected again by writing it to `ctl[0]` (20_memory R100, R101). -/
theorem write_ctl0_mapped {m : Mapper} {r r' : SegaBank} (hb : m.bank = .sega r') (hlen : r'.ram.length = r.ram.length) (thr : Bool) :
    (m.write thr 0xFFFC r.ctl0).1.bank.mapped = r.mapped := by
  rw [write_control_bank ((isControl_sega hb).mpr (by decide)), Bank.mapped_withRam _ _ (by simp), hb]
  show (SegaBank.setCtl r' 0 r.ctl0).mapped = r.mapped
  simp [SegaBank.setCtl, SegaBank.mapped, hlen]

/-- The bank a Codemasters control byte selects is selected again by writing it to `ctl[1]` (20_memory R110, R111). -/
theorem write_ctl1_mapped {m : Mapper} {r r' : CodemastersBank} (hb : m.bank = .codemasters r') (hlen : r'.ram.length = r.ram.length)
    (thr : Bool) : (m.write thr 0x4000 r.ctl1).1.bank.mapped = r.mapped := by
  rw [write_control_bank ((isControl_codemasters hb).mpr (by decide)), Bank.mapped_withRam _ _ (by simp), hb]
  show (CodemastersBank.setCtl r' 1 r.ctl1).mapped = r.mapped
  simp [CodemastersBank.setCtl, CodemastersBank.mapped, hlen]

/-- `cartRam_read_back` with the write that maps the bank again written out: it does so on every mapper of the same variant with as many
banks (20_memory R104, R115). -/
theorem cartRam_read_back_after {m : Mapper} (h : m.Inv) {k : Nat} (hk : m.bank.mapped = some k) {a : Word}
    (ha : m.bank.inRamWindow (slotOf a)) (hord : m.isControl a = false) (thr : Bool) (v : Byte) {ws : List (Word × Byte)}
    (hws : ∀ w ∈ ws, m.isControl w.1 = true) {last : Word × Byte} (hlast : m.isControl last.1 = true)
    (hk' : ∀ m' : Mapper, m'.bank.ramPages = m.bank.ramPages → m'.bank.ram.length = m.bank.ram.length →
      (m'.write thr last.1 last.2).1.bank.mapped = some k) :
    (storeAll thr m ([(a, v)] ++ ws ++ [last])).read a = v := by
  have hmapped : (storeAll thr m ([(a, v)] ++ ws ++ [last])).bank.mapped = some k := by
    obtain ⟨hpages, hlen⟩ := storeAll_bank thr m ([(a, v)] ++ ws)
    rw [storeAll, List.foldl_append]
    exact hk' _ hpages hlen
  exact cartRam_read_back h hk ha hord thr v (List.forall_mem_append.mpr ⟨hws, List.forall_mem_singleton.mpr hlast⟩) hmapped

/-- Settles O33: whatever was written in between, the last write maps the bank again, `cartRam_read_back_after`. -/
theorem cartridgeRamPersists : Obligations.CartridgeRamPersists := by
  constructor
  · intro m r through a v ws h hb h8 hlt hlo hhi hws
    have hk : r.mapped = some _ := (r.mapped_eq_some _).mpr ⟨h8, rfl, hlt⟩
    refine cartRam_read_back_after h (by rwa [hb]) ?_ (Bool.eq_false_iff.mpr fun hc => ?_) through v
      (fun w hw => (isControl_sega hb).mpr (hws w hw)) ((isControl_sega hb).mpr (Nat.le_refl 0xFFFC)) fun m' hpages hlen => ?_
    · rw [hb, Bank.inRamWindow, slotOf_val]
      exact ⟨by show 4 ≤ _; omega, by show _ < 6; omega⟩
    · have hge := (isControl_sega hb).mp hc
      omega
    · rw [hb] at hpages hlen
      obtain ⟨r', hb'⟩ := m'.bank.ramPages_eq_two_iff.mp hpages
      rw [hb'] at hlen
      exact (write_ctl0_mapped hb' hlen through).trans hk
  · intro m r through a v ws h hb h7 hlt hlo hhi hws
    have hk : r.mapped = some 0 := (r.mapped_eq_some 0).mpr ⟨h7, rfl, hlt⟩
    refine cartRam_read_back_after h (by rwa [hb]) ?_ (Bool.eq_false_iff.mpr fun hc => ?_) through v
      (fun w hw => (isControl_codemasters hb).mpr (hws w hw)) ((isControl_codemasters hb).mpr (.tail _ (.head _)))
      fun m' hpages hlen => ?_
    · rw [hb, Bank.inRamWindow, slotOf_val]
      exact ⟨by show 5 ≤ _; omega, by show _ < 6; omega⟩
    · have hmem := (isControl_codemasters hb).mp hc
      fin_cases hmem <;> simp at hlo
    · cases hb' : m'.bank with
      | sega r' => rw [hb, hb'] at hpages; cases hpages
      | codemasters r' =>
        rw [hb, hb'] at hlen
        exact (write_ctl1_mapped hb' hlen through).trans hk

end Sys2Proof.Machine
end

section
/-! What every instruction stores (20_memory R85, R86, R95; the operations of the rules 40 to 49): the bytes of `storesOf` in their
order, and so what it leaves as it was. -/

namespace Sys2Proof.Machine

/-- Wherever the outcome goes on, the bytes `ws` have been stored through the mapper. -/
def Stores (s : State) (o : Out) (ws : List (Word × Byte)) : Prop :=
  ∀ t, o = .next t → t.mapper = storeAll s.cfg.segaCtrlWriteThrough s.mapper ws

section
variable {s u : State} {ws : List (Word × Byte)}

theorem Stores.finish {n : Nat} (h : u.mapper = storeAll s.cfg.segaCtrlWriteThrough s.mapper ws) : Stores s (finish n u) ws := by
  rintro t ⟨⟩
  exact h

/-- The repeat mechanism stores nothing (42_exchange_block R287; 49_io R527). -/
theorem Stores.repeatWhile {again : Bool} (h : u.mapper = storeAll s.cfg.segaCtrlWriteThrough s.mapper ws) :
    Stores s (repeatWhile again u) ws := by
  rw [repeatWhile_eq]
  rintro t ⟨⟩
  exact h

/-- An instruction that may not change the mapper stores nothing (20_memory R89). -/
theorem stores_nothing {i : Instr} (hi : isPrefixRow i = false) (hm : (writtenParts s.cfg i).contains .mapper = false) :
    Stores s (exec i s) [] := by
  intro t h
  refine exec_frame hi h .mapper fun hmem => ?_
  obtain hc | hmem := List.mem_cons.mp hmem
  · cases hc
  · rw [List.contains_iff_mem.mpr hmem] at hm
    cases hm

end

/-- The mapper is no register (30_encoding R145). -/
theorem regPart_cons_contains_mapper (r : Reg8) (ps : List Part) : (regPart r :: ps).contains .mapper = ps.contains .mapper := by
  cases r <;> rfl

section
variable (s : State)

theorem incMem_mapper (a : Word) :
    (s.incMem a).mapper = storeAll s.cfg.segaCtrlWriteThrough s.mapper [(a, s.memRead a + 1)] :=
  congrArg (fun v => (s.memWrite a v).mapper) (inc8_fst (s.memRead a) s.cpu.f s.free)

theorem decMem_mapper (a : Word) :
    (s.decMem a).mapper = storeAll s.cfg.segaCtrlWriteThrough s.mapper [(a, s.memRead a - 1)] :=
  congrArg (fun v => (s.memWrite a v).mapper) (dec8_fst (s.memRead a) s.cpu.f s.free)

/-- A rotate or shift in memory stores the rule's byte (46_rotate_shift R425, R426). -/
theorem shiftMem_mapper {f : Byte → Bool → Byte × Bool} {op : ShiftOp} (hf : ∀ v g, (f v g.c).1 = op.byte v g) (a : Word) :
    (s.shiftMem f a).mapper = storeAll s.cfg.segaCtrlWriteThrough s.mapper [(a, op.byte (s.memRead a) s.cpu.f)] :=
  congrArg (fun v => (s.memWrite a v).mapper) (hf (s.memRead a) s.cpu.f)

/-- The copy into a register stores nothing more (46_rotate_shift R435). -/
theorem shiftMemCopy_mapper {f : Byte → Bool → Byte × Bool} {op : ShiftOp} (hf : ∀ v g, (f v g.c).1 = op.byte v g) (a : Word)
    (r : Reg8) :
    (s.shiftMemCopy f a r).mapper = storeAll s.cfg.segaCtrlWriteThrough s.mapper [(a, op.byte (s.memRead a) s.cpu.f)] :=
  (State.setR8_mapper ..).trans (shiftMem_mapper s hf a)

theorem rotateDigitLeft_mapper : s.rotateDigitLeft.mapper = storeAll s.cfg.segaCtrlWriteThrough s.mapper
    [(s.hl, trunc8 (16 * ((s.memRead s.hl).toNat % 16) + s.cpu.a.toNat % 16))] :=
  congrArg (fun v => (s.memWrite s.hl v).mapper) (rld_byte (s.memRead s.hl) s.cpu.a)

theorem rotateDigitRight_mapper : s.rotateDigitRight.mapper = storeAll s.cfg.segaCtrlWriteThrough s.mapper
    [(s.hl, trunc8 (16 * (s.cpu.a.toNat % 16) + (s.memRead s.hl).toNat / 16))] :=
  congrArg (fun v => (s.memWrite s.hl v).mapper) (rrd_byte (s.memRead s.hl) s.cpu.a)

theorem setMem_mapper (a : Word) (b : BitVec 3) :
    (s.setMem a b).mapper = storeAll s.cfg.segaCtrlWriteThrough s.mapper [(a, withBit (s.memRead a) b true)] :=
  congrArg (fun v => (s.memWrite a v).mapper) (set8_eq_withBit (s.memRead a) b)

theorem resMem_mapper (a : Word) (b : BitVec 3) :
    (s.resMem a b).mapper = storeAll s.cfg.segaCtrlWriteThrough s.mapper [(a, withBit (s.memRead a) b false)] :=
  congrArg (fun v => (s.memWrite a v).mapper) (res8_eq_withBit (s.memRead a) b)

/-- One iteration of a block transfer stores one byte (42_exchange_block R288, R290). -/
theorem blockLoad_mapper (k : Word) :
    (s.blockLoad k).mapper = storeAll s.cfg.segaCtrlWriteThrough s.mapper [(s.de, s.memRead s.hl)] := rfl

/-- One iteration of a block input stores the byte read (49_io R524, R526). -/
theorem blockIn_mapper (k : Word) :
    (s.blockIn k).mapper = storeAll s.cfg.segaCtrlWriteThrough s.mapper [(s.hl, (s.ioRead s.bc).1)] := by
  simp [State.blockIn, storeAll]

/-- Every instruction stores the bytes of `storesOf`, in that order (20_memory R85, R86, R95). -/
theorem exec_stores (i : Instr) (hi : isPrefixRow i = false) : Stores s (exec i s) (storesOf s i) := by
  cases i with
  -- 40_load8
  | ldMemBcA | ldMemDeA | ldMemNnA | ldMemHlN | ldMemHlR | ldMemIxN | ldMemIxR | ldMemIyN | ldMemIyR => exact .finish rfl
  | ldRN | ldRMemHl | ldRR | ldRMemIx | ldRMemIy => exact stores_nothing hi (regPart_cons_contains_mapper _ _)
  | ldPPIx dst | ldPPIy dst => cases dst <;> exact stores_nothing hi rfl
  -- 41_load16_stack
  | ldMemNnHl | ldMemNnIx | ldMemNnIy => exact .finish (s.memWrite16_mapper _ _)
  | ldMemNnDd nn dd => cases dd <;> exact .finish (s.memWrite16_mapper _ _)
  | pushQq | pushIx | pushIy => exact .finish (s.push16_mapper _)
  | ldDdNn dd | incSs dd | decSs dd => cases dd <;> exact stores_nothing hi rfl
  | ldDdMemNn dd => cases dd <;> exact stores_nothing hi rfl
  | popQq qq => cases qq <;> exact stores_nothing hi rfl
  -- 42_exchange_block
  | exMemSpHl | exMemSpIx | exMemSpIy => exact .finish (s.replaceTop_mapper _)
  | ldi | ldd => exact .finish (blockLoad_mapper s _)
  | ldir | lddr => exact .repeatWhile (blockLoad_mapper s _)
  -- 43_alu8
  | incMemHl | incMemIx | incMemIy => exact .finish (incMem_mapper s _)
  | decMemHl | decMemIx | decMemIy => exact .finish (decMem_mapper s _)
  | incR | decR => exact stores_nothing hi (regPart_cons_contains_mapper _ _)
  -- 46_rotate_shift
  | rlcMemHl | rlcMemIx | rlcMemIy => exact .finish (shiftMem_mapper s rlc8_fst _)
  | rrcMemHl | rrcMemIx | rrcMemIy => exact .finish (shiftMem_mapper s rrc8_fst _)
  | rlMemHl | rlMemIx | rlMemIy => exact .finish (shiftMem_mapper s rl8_fst _)
  | rrMemHl | rrMemIx | rrMemIy => exact .finish (shiftMem_mapper s rr8_fst _)
  | slaMemHl | slaMemIx | slaMemIy => exact .finish (shiftMem_mapper s sla8_fst _)
  | sraMemHl | sraMemIx | sraMemIy => exact .finish (shiftMem_mapper s sra8_fst _)
  | sllMemHl | sllMemIx | sllMemIy => exact .finish (shiftMem_mapper s sll8_fst _)
  | srlMemHl | srlMemIx | srlMemIy => exact .finish (shiftMem_mapper s srl8_fst _)
  | rlcMemIxR | rlcMemIyR => exact .finish (shiftMemCopy_mapper s rlc8_fst _ _)
  | rrcMemIxR | rrcMemIyR => exact .finish (shiftMemCopy_mapper s rrc8_fst _ _)
  | rlMemIxR | rlMemIyR => exact .finish (shiftMemCopy_mapper s rl8_fst _ _)
  | rrMemIxR | rrMemIyR => exact .finish (shiftMemCopy_mapper s rr8_fst _ _)
  | slaMemIxR | slaMemIyR => exact .finish (shiftMemCopy_mapper s sla8_fst _ _)
  | sraMemIxR | sraMemIyR => exact .finish (shiftMemCopy_mapper s sra8_fst _ _)
  | sllMemIxR | sllMemIyR => exact .finish (shiftMemCopy_mapper s sll8_fst _ _)
  | srlMemIxR | srlMemIyR => exact .finish (shiftMemCopy_mapper s srl8_fst _ _)
  | rld => exact .finish (rotateDigitLeft_mapper s)
  | rrd => exact .finish (rotateDigitRight_mapper s)
  | rlcR | rrcR | rlR | rrR | slaR | sraR | sllR | srlR => exact stores_nothing hi (regPart_cons_contains_mapper _ _)
  -- 47_bit
  | setMemHl | setMemIx | setMemIy => exact .finish (setMem_mapper s _ _)
  | resMemHl | resMemIx | resMemIy => exact .finish (resMem_mapper s _ _)
  | setMemIxR | setMemIyR => exact .finish ((State.setR8_mapper ..).trans (setMem_mapper s _ _))
  | resMemIxR | resMemIyR => exact .finish ((State.setR8_mapper ..).trans (resMem_mapper s _ _))
  | setR | resR => exact stores_nothing hi (regPart_cons_contains_mapper _ _)
  -- 48_jump_call_return
  | callNn | rst => exact .finish (s.callTo_facts _).2.2
  | callCcNn cc nn =>
    show Stores s (if condHolds s.cpu.f cc then _ else _) (if condTrue s.cpu.f cc then _ else _)
    rw [condHolds_eq]
    split
    · exact .finish (s.callTo_facts nn).2.2
    · exact .finish rfl
  | reti =>
    refine stores_nothing hi ?_
    show (Part.sp :: .pc :: retiParts s.cfg.retiIffPolicy).contains .mapper = false
    cases s.cfg.retiIffPolicy <;> rfl
  -- 49_io
  | ini | ind => exact .finish (blockIn_mapper s _)
  | inir | indr => exact .repeatWhile (blockIn_mapper s _)
  | inRC => exact stores_nothing hi (regPart_cons_contains_mapper _ _)
  -- every other instruction has a table entry without the mapper
  | _ => exact stores_nothing hi rfl

end

/-- Settles O36: instruction by instruction, `exec_stores`. -/
theorem instructionStores : Obligations.InstructionStores := fun i s t hi h => exec_stores s i hi t h

/-! ### What is left as it was -/

/-- After an ordinary write every address lands where it did, as a control address, a store or a read (20_memory R89, R95). -/
theorem ordinaryWrite_addressing (m : Mapper) (a : Word) (v : Byte) (b : Word) :
    (m.ordinaryWrite a v).1.isControl b = m.isControl b ∧ (m.ordinaryWrite a v).1.storeTarget b = m.storeTarget b ∧
      (m.ordinaryWrite a v).1.resolve b = m.resolve b := by
  obtain ⟨hs, hw, hb, -, -⟩ := ordinaryWrite_frame m a v
  exact ⟨isControl_congr (by rw [hb]) b, by simp only [Mapper.storeTarget, hs, hw], ordinaryWrite_resolve m a v b⟩

/-- Stores to ordinary addresses leave every address that resolves to none of the bytes stored as it was (20_memory R89). -/
theorem storeAll_read {m : Mapper} (thr : Bool) {ws : List (Word × Byte)} {b : Word} (hord : ∀ w ∈ ws, m.isControl w.1 = false)
    (hne : ∀ w ∈ ws, m.storeTarget w.1 ≠ some (m.resolve b)) : (storeAll thr m ws).read b = m.read b := by
  induction ws generalizing m with
  | nil => rfl
  | cons w rest ih =>
    obtain ⟨hw, hrest⟩ := List.forall_mem_cons.mp hord
    obtain ⟨hwne, hrestne⟩ := List.forall_mem_cons.mp hne
    have haddr := ordinaryWrite_addressing m w.1 w.2
    show (storeAll thr (m.write thr w.1 w.2).1 rest).read b = m.read b
    rw [write_ordinary m thr w.1 w.2 hw, ih, ordinaryWrite_read m w.1 w.2 b hwne]
    · exact fun x hx => by rw [(haddr x.1).1, hrest x hx]
    · exact fun x hx => by rw [(haddr x.1).2.1, (haddr b).2.2]; exact hrestne x hx

/-- Settles O37: the mapper after the instruction is that of its stores, `exec_stores`, and those leave the address alone,
`storeAll_read`. -/
theorem unstoredBytesUnchanged : Obligations.UnstoredBytesUnchanged := by
  intro i s t hi h hord b hne
  rw [State.memRead_eq, exec_stores s i hi t h, storeAll_read _ hord hne, State.memRead_eq]

end Sys2Proof.Machine
end

section
/-! An opcode as its fields (30_encoding R143 to R148): the fields of a composed opcode, and case analysis on a field. -/

namespace Sys2Proof

@[simp] theorem fieldX_opXYZ : ∀ (x : BitVec 2) (y z : BitVec 3), fieldX (opXYZ x y z) = x := by decide
@[simp] theorem fieldY_opXYZ : ∀ (x : BitVec 2) (y z : BitVec 3), fieldY (opXYZ x y z) = y := by decide
@[simp] theorem fieldZ_opXYZ : ∀ (x : BitVec 2) (y z : BitVec 3), fieldZ (opXYZ x y z) = z := by decide

/-- An opcode is its three fields (30_encoding R143). -/
theorem opXYZ_fields : ∀ op : Byte, opXYZ (fieldX op) (fieldY op) (fieldZ op) = op := by decide

/-- A register's code is read as the register, nothing is lost (30_encoding R145). -/
@[simp] theorem reg8Of_reg8Code (r : Reg8) : reg8Of (reg8Code r) = some r := by cases r <;> rfl

@[simp] theorem reg8Of_six : reg8Of 6#3 = none := rfl

theorem bit_cases {P : BitVec 1 → Prop} (b0 : P 0) (b1 : P 1) (q : BitVec 1) : P q := by
  have key : ∀ q : BitVec 1, q = 0 ∨ q = 1 := by decide
  obtain rfl | rfl := key q <;> assumption

theorem pair_cases {P : BitVec 2 → Prop} (p0 : P 0) (p1 : P 1) (p2 : P 2) (p3 : P 3) (p : BitVec 2) : P p := by
  have key : ∀ p : BitVec 2, p = 0 ∨ p = 1 ∨ p = 2 ∨ p = 3 := by decide
  obtain rfl | rfl | rfl | rfl := key p <;> assumption

theorem field_cases {P : BitVec 3 → Prop} (f0 : P 0) (f1 : P 1) (f2 : P 2) (f3 : P 3) (f4 : P 4) (f5 : P 5) (f6 : P 6) (f7 : P 7)
    (f : BitVec 3) : P f := by
  have key : ∀ f : BitVec 3, f = 0 ∨ f = 1 ∨ f = 2 ∨ f = 3 ∨ f = 4 ∨ f = 5 ∨ f = 6 ∨ f = 7 := by decide
  obtain rfl | rfl | rfl | rfl | rfl | rfl | rfl | rfl := key f <;> assumption

/-- The four quadrants of an opcode table (30_encoding R154 to R157). -/
theorem opcode_cases {P : Byte → Prop} (x0 : ∀ y z, P (opXYZ 0 y z)) (x1 : ∀ y z, P (opXYZ 1 y z)) (x2 : ∀ y z, P (opXYZ 2 y z))
    (x3 : ∀ y z, P (opXYZ 3 y z)) (op : Byte) : P op := by
  have key : ∀ x y z, P (opXYZ x y z) := fun x => by
    cases x using pair_cases with
    | p0 => exact x0
    | p1 => exact x1
    | p2 => exact x2
    | p3 => exact x3
  exact opXYZ_fields op ▸ key _ _ _

end Sys2Proof
end

section
/-! What each decoder table reads is spelled by the bytes it read (30_encoding R142, R149 to R161), table by table, so the same holds of
every four bytes. -/

namespace Sys2Proof

open Sys2Proof.Machine

/-- `i` is a well-formed instruction and `bs` are its bytes. -/
def Spells (i : Instr) (bs : List Byte) : Prop := i.wf = true ∧ encode i = bs

/-- An instruction that ends with a word, low byte first (30_encoding R144). -/
theorem Spells.word {i : Instr} {lo hi : Byte} (before : List Byte) (hwf : i.wf = true)
    (he : encode i = before ++ [loByte (wordOf hi lo), hiByte (wordOf hi lo)]) : Spells i (before ++ [lo, hi]) := by
  rw [loByte_wordOf, hiByte_wordOf] at he
  exact ⟨hwf, he⟩

/-- The instruction in the four bytes is spelled by as many of them as it is long. -/
def WindowSpells (b0 b1 b2 b3 : Byte) : Prop := Spells (decodeWindow b0 b1 b2 b3) ([b0, b1, b2, b3].take (windowLength b0 b1))

/-- The base table (30_encoding R154 to R157). -/
theorem decodeBase_spells (op b1 b2 b3 : Byte) : Spells (decodeBase op b1 b2) ([op, b1, b2, b3].take (1 + baseOperands op)) := by
  cases op using opcode_cases with
  | x0 y z =>
    cases z using field_cases with
    | f1 => cases y using field_cases with
      | f0 | f2 | f4 | f6 => exact .word [_] rfl rfl
      | _ => exact ⟨rfl, rfl⟩
    | f2 => cases y using field_cases with
      | f4 | f5 | f6 | f7 => exact .word [_] rfl rfl
      | _ => exact ⟨rfl, rfl⟩
    | _ => cases y using field_cases <;> exact ⟨rfl, rfl⟩
  | x1 y z | x2 y z => cases y using field_cases <;> cases z using field_cases <;> exact ⟨rfl, rfl⟩
  | x3 y z =>
    cases z using field_cases with
    | f2 | f4 => cases y using field_cases <;> exact .word [_] rfl rfl
    | f3 => cases y using field_cases with
      | f0 => exact .word [_] rfl rfl
      | _ => exact ⟨rfl, rfl⟩
    | f5 => cases y using field_cases with
      | f1 => exact .word [_] rfl rfl
      | _ => exact ⟨rfl, rfl⟩
    | _ => cases y using field_cases <;> exact ⟨rfl, rfl⟩

/-- The CB table (30_encoding R158). -/
theorem decodeCb_spells : ∀ op : Byte, Spells (decodeCb op) [0xCB, op] := by
  unfold Spells
  decide

/-- The ED table (30_encoding R159): the loads of column 3 alone have operand bytes. -/
theorem windowSpells_ed (op b2 b3 : Byte) : WindowSpells 0xED op b2 b3 := by
  cases op using opcode_cases with
  | x1 y z =>
    cases z using field_cases with
    | f3 => cases y using field_cases <;> exact .word [_, _] rfl rfl
    | _ => cases y using field_cases <;> exact ⟨rfl, rfl⟩
  | _ y z => cases y using field_cases <;> cases z using field_cases <;> exact ⟨rfl, rfl⟩

/-- The DDCB and FDCB tables (30_encoding R153). -/
theorem decodeIndexCb_spells (d op : Byte) :
    Spells (decodeDdCb d op) [0xDD, 0xCB, d, op] ∧ Spells (decodeFdCb d op) [0xFD, 0xCB, d, op] := by
  cases op using opcode_cases with
  | _ y z => cases y using field_cases <;> cases z using field_cases <;> exact ⟨⟨rfl, rfl⟩, ⟨rfl, rfl⟩⟩

/-- What an opcode after DD or FD is: one of `IDX_OPS` and so a row of either index table, or none and so the NONI of either
(30_encoding R151, R152). -/
inductive IndexOpcode (op b2 b3 : Byte) : Prop where
  | row (inside : inIdxOps op = true) (dd : WindowSpells 0xDD op b2 b3) (fd : WindowSpells 0xFD op b2 b3)
  | noni (outside : inIdxOps op = false) (dd : decodeWindow 0xDD op b2 b3 = .noniDd) (fd : decodeWindow 0xFD op b2 b3 = .noniFd)

/-- The DD and FD tables, quadrant by quadrant: the rows are those that name HL, H, L or `(HL)` (30_encoding R149 to R151). -/
theorem indexOpcode (op b2 b3 : Byte) : IndexOpcode op b2 b3 := by
  cases op using opcode_cases with
  | x0 y z =>
    cases z using field_cases with
    | f0 | f7 => cases y using field_cases <;> exact .noni rfl rfl rfl
    | f1 => cases y using field_cases with
      | f4 => exact .row rfl (.word [_, _] rfl rfl) (.word [_, _] rfl rfl)
      | f1 | f3 | f5 | f7 => exact .row rfl ⟨rfl, rfl⟩ ⟨rfl, rfl⟩
      | _ => exact .noni rfl rfl rfl
    | f2 => cases y using field_cases with
      | f4 | f5 => exact .row rfl (.word [_, _] rfl rfl) (.word [_, _] rfl rfl)
      | _ => exact .noni rfl rfl rfl
    | f3 => cases y using field_cases with
      | f4 | f5 => exact .row rfl ⟨rfl, rfl⟩ ⟨rfl, rfl⟩
      | _ => exact .noni rfl rfl rfl
    | f4 | f5 | f6 => cases y using field_cases with
      | f4 | f5 | f6 => exact .row rfl ⟨rfl, rfl⟩ ⟨rfl, rfl⟩
      | _ => exact .noni rfl rfl rfl
  | x1 y z =>
    cases y using field_cases with
    | f4 | f5 => cases z using field_cases <;> exact .row rfl ⟨rfl, rfl⟩ ⟨rfl, rfl⟩
    | f6 => cases z using field_cases with
      | f6 => exact .noni rfl rfl rfl
      | _ => exact .row rfl ⟨rfl, rfl⟩ ⟨rfl, rfl⟩
    | _ => cases z using field_cases with
      | f4 | f5 | f6 => exact .row rfl ⟨rfl, rfl⟩ ⟨rfl, rfl⟩
      | _ => exact .noni rfl rfl rfl
  | x2 y z =>
    cases z using field_cases with
    | f4 | f5 | f6 => cases y using field_cases <;> exact .row rfl ⟨rfl, rfl⟩ ⟨rfl, rfl⟩
    | _ => cases y using field_cases <;> exact .noni rfl rfl rfl
  | x3 y z =>
    cases z using field_cases with
    | f1 => cases y using field_cases with
      | f4 | f5 | f7 => exact .row rfl ⟨rfl, rfl⟩ ⟨rfl, rfl⟩
      | _ => exact .noni rfl rfl rfl
    | f3 => cases y using field_cases with
      | f1 => exact .row rfl (decodeIndexCb_spells b2 b3).1 (decodeIndexCb_spells b2 b3).2
      | f4 => exact .row rfl ⟨rfl, rfl⟩ ⟨rfl, rfl⟩
      | _ => exact .noni rfl rfl rfl
    | f5 => cases y using field_cases with
      | f4 => exact .row rfl ⟨rfl, rfl⟩ ⟨rfl, rfl⟩
      | _ => exact .noni rfl rfl rfl
    | _ => cases y using field_cases <;> exact .noni rfl rfl rfl

/-- DD or FD alone, before a byte outside `IDX_OPS` (30_encoding R152). -/
theorem decodeWindow_noni {op : Byte} (h : op ∉ idxOps) (b2 b3 : Byte) :
    decodeWindow 0xDD op b2 b3 = .noniDd ∧ decodeWindow 0xFD op b2 b3 = .noniFd := by
  cases indexOpcode op b2 b3 with
  | row inside _ _ => exact absurd (by simpa [inIdxOps_eq] using inside) h
  | noni _ dd fd => exact ⟨dd, fd⟩

/-- An instruction that begins with DD or FD is one byte long before a byte outside `IDX_OPS` alone (30_encoding R151, R152). -/
theorem windowLength_index_eq_one (op : Byte) :
    (windowLength 0xDD op = 1 ↔ op ∉ idxOps) ∧ (windowLength 0xFD op = 1 ↔ op ∉ idxOps) := by
  have hdd : windowLength 0xDD op = 1 ↔ op ∉ idxOps := by
    by_cases h : op ∈ idxOps
    · have hlong : 2 ≤ windowLength 0xDD op := by
        show 2 ≤ if op == 0xCB then 4 else if inIdxOps op then 2 + baseOperands op + (if hasMemHl op then 1 else 0) else 1
        rw [inIdxOps_eq, if_pos (decide_eq_true h)]
        split <;> omega
      exact iff_of_false (by omega) (not_not_intro h)
    · have hcb : op ≠ 0xCB := fun hb => h (hb ▸ by decide)
      simpa [windowLength, inIdxOps_eq, h] using hcb
  exact ⟨hdd, hdd⟩

theorem windowSpells_index (b1 b2 b3 : Byte) : WindowSpells 0xDD b1 b2 b3 ∧ WindowSpells 0xFD b1 b2 b3 := by
  cases indexOpcode b1 b2 b3 with
  | row _ dd fd => exact ⟨dd, fd⟩
  | noni outside dd fd =>
    have hout : b1 ∉ idxOps := by simpa [inIdxOps_eq] using outside
    obtain ⟨hdd, hfd⟩ := windowLength_index_eq_one b1
    unfold WindowSpells
    rw [dd, fd, hdd.mpr hout, hfd.mpr hout]
    exact ⟨⟨rfl, rfl⟩, ⟨rfl, rfl⟩⟩

/-- Every four bytes begin with the spelling of the instruction they hold (30_encoding R142, R161). -/
theorem windowSpells (b0 b1 b2 b3 : Byte) : WindowSpells b0 b1 b2 b3 := by
  by_cases hlead : b0 = 0xCB ∨ b0 = 0xED ∨ b0 = 0xDD ∨ b0 = 0xFD
  · obtain rfl | rfl | rfl | rfl := hlead
    · exact decodeCb_spells b1
    · exact windowSpells_ed b1 b2 b3
    · exact (windowSpells_index b1 b2 b3).1
    · exact (windowSpells_index b1 b2 b3).2
  · simp at hlead
    simpa [WindowSpells, decodeWindow, windowLength, hlead] using decodeBase_spells b0 b1 b2 b3

/-- Settles O3: table by table, `windowSpells`. -/
theorem everyWindowEncodesBack : Obligations.EveryWindowEncodesBack := by
  intro b0 b1 b2 b3
  obtain ⟨hwf, he⟩ := windowSpells b0 b1 b2 b3
  exact ⟨hwf, decodeWindow_not_prefixRow b0 b1 b2 b3, he⟩

/-- No instruction is longer than four bytes (30_encoding R142). -/
theorem windowLength_le_four (b0 b1 : Byte) : windowLength b0 b1 ≤ 4 := by
  by_contra h
  have hdec := decode_window b0 b1 0 0
  simp [decode, lonePrefix, not_le.mp h] at hdec

/-- The length the decoder counts is the length of what it reads (30_encoding R142). -/
theorem length_encode_decodeWindow (b0 b1 b2 b3 : Byte) : (encode (decodeWindow b0 b1 b2 b3)).length = windowLength b0 b1 := by
  obtain ⟨-, he⟩ := windowSpells b0 b1 b2 b3
  rw [he, List.length_take]
  exact min_eq_left (windowLength_le_four b0 b1)

/-- Settles O4: a NONI is one byte long and no index row is (`windowLength_index_eq_one`); outside `IDX_OPS` both tables give the NONI
(`decodeWindow_noni`). -/
theorem noniExactlyOutsideIdxOps : Obligations.NoniExactlyOutsideIdxOps := by
  refine ⟨rfl, fun b1 b2 b3 => ?_⟩
  obtain ⟨hdd, hfd⟩ := windowLength_index_eq_one b1
  have hout : b1 ∉ idxOps → decodeWindow 0xDD b1 b2 b3 = .noniDd ∧ decodeWindow 0xFD b1 b2 b3 = .noniFd := fun h =>
    decodeWindow_noni h b2 b3
  refine ⟨⟨fun h => hdd.mp ?_, fun h => (hout h).1⟩, ⟨fun h => hfd.mp ?_, fun h => (hout h).2⟩, fun h => ⟨hdd.mpr h, hfd.mpr h⟩⟩
  · rw [← length_encode_decodeWindow 0xDD b1 b2 b3, h]
    rfl
  · rw [← length_encode_decodeWindow 0xFD b1 b2 b3, h]
    rfl

end Sys2Proof
end

section
/-! Decoding what `encode` gives (30_encoding R140 to R163): row by row the decoder reads the instruction back, and it takes the bytes of
the encoding and no more. -/

namespace Sys2Proof

open Sys2Proof.Machine

/-- The instruction in the first four of the bytes; fewer than four hold none here. -/
def firstInstr : List Byte → Instr
  | b0 :: b1 :: b2 :: b3 :: _ => decodeWindow b0 b1 b2 b3
  | _ => .nop

/-- Every row reads back, whatever bytes follow; a NONI where the next byte is outside `IDX_OPS`. -/
theorem firstInstr_encode (i : Instr) (b1 b2 b3 : Byte) (hwf : i.wf = true) (hp : isPrefixRow i = false)
    (hn : i = .noniDd ∨ i = .noniFd → b1 ∉ idxOps) : firstInstr (encode i ++ [b1, b2, b3]) = i := by
  cases i with
  | prefixCb | prefixDd | prefixEd | prefixFd | prefixDdCb | prefixFdCb => cases hp
  | noniDd => exact (decodeWindow_noni (hn (.inl rfl)) b2 b3).1
  | noniFd => exact (decodeWindow_noni (hn (.inr rfl)) b2 b3).2
  -- a register (R145)
  | incR r | decR r | ldRN r | ldRMemHl r | ldMemHlR r | inRC r | outCR r
  | addAR r | adcAR r | subR r | sbcAR r | andR r | xorR r | orR r | cpR r
  | rlcR r | rrcR r | rlR r | rrR r | slaR r | sraR r | sllR r | srlR r
  | ldRMemIx r | ldMemIxR _ r | rlcMemIxR _ r | rrcMemIxR _ r | rlMemIxR _ r | rrMemIxR _ r | slaMemIxR _ r | sraMemIxR _ r
  | sllMemIxR _ r | srlMemIxR _ r
  | ldRMemIy r | ldMemIyR _ r | rlcMemIyR _ r | rrcMemIyR _ r | rlMemIyR _ r | rrMemIyR _ r | slaMemIyR _ r | sraMemIyR _ r
  | sllMemIyR _ r | srlMemIyR _ r => cases r <;> rfl
  | ldRR dst src => cases dst <;> cases src <;> rfl
  -- an index half (R150); `LD p,p'` with a half on one side
  | incIxHalf h | decIxHalf h | ldIxHalfN h | addAIxHalf h | adcAIxHalf h | subIxHalf h | sbcAIxHalf h | andIxHalf h | xorIxHalf h
  | orIxHalf h | cpIxHalf h
  | incIyHalf h | decIyHalf h | ldIyHalfN h | addAIyHalf h | adcAIyHalf h | subIyHalf h | sbcAIyHalf h | andIyHalf h | xorIyHalf h
  | orIyHalf h | cpIyHalf h => cases h <;> rfl
  | ldPPIx dst src | ldPPIy dst src =>
    cases dst with
    | hi | lo => cases src <;> rfl
    | _ => cases src with
      | hi | lo => rfl
      | _ => cases hwf
  -- a pair or a condition (R146 to R148)
  | addHlSs p | incSs p | decSs p | sbcHlSs p | adcHlSs p | popQq p | pushQq p | addIxPp p | addIyRr p => cases p <;> rfl
  | retCc cc => cases cc <;> rfl
  -- a word (R144)
  | ldMemNnHl nn | ldHlMemNn nn | ldMemNnA nn | ldAMemNn nn | jpNn nn | callNn nn | ldIxNn nn | ldMemNnIx nn | ldIxMemNn nn
  | ldIyNn nn | ldMemNnIy nn | ldIyMemNn nn =>
    conv_rhs => rw [← wordOf_hi_lo nn]
    rfl
  | ldDdNn x nn | jpCcNn x nn | callCcNn x nn | ldMemNnDd nn x | ldDdMemNn x nn =>
    conv_rhs => rw [← wordOf_hi_lo nn]
    cases x <;> rfl
  -- a bit number or a restart address in the field y (R143)
  | rst y => cases y using field_cases <;> rfl
  | bitR | resR | setR | bitMemHl | resMemHl | setMemHl => simp [encode, firstInstr, decodeWindow, decodeCb]
  | bitMemIx | resMemIx | setMemIx | bitMemIxZ | resMemIxR | setMemIxR => simp [encode, firstInstr, decodeWindow, decodeDdCb]
  | bitMemIy | resMemIy | setMemIy | bitMemIyZ | resMemIyR | setMemIyR => simp [encode, firstInstr, decodeWindow, decodeFdCb]
  -- the mirrors and no-operations of the ED table (R159)
  | negMirror y => cases y using field_cases with
    | f0 => cases hwf
    | _ => rfl
  | retnMirror y => cases y using field_cases with
    | f0 | f1 => cases hwf
    | _ => rfl
  | im0Mirror y => cases y using field_cases with
    | f1 | f4 | f5 => rfl
    | _ => cases hwf
  | nopEdX0 y z | nopEdX3 y z => cases y using field_cases <;> cases z using field_cases <;> rfl
  | nopEd77 q => cases q using bit_cases <;> rfl
  | nopEd80 p q z => cases p using bit_cases <;> cases q using bit_cases <;> cases z using field_cases <;> rfl
  | nopEdA4 p q z => cases p using bit_cases <;> cases q using bit_cases <;> cases z using pair_cases <;> rfl
  -- an opcode alone, or with bytes that are read as they stand
  | _ => rfl

theorem encode_ne_nil (i : Instr) : encode i ≠ [] := by
  cases i <;> exact List.cons_ne_nil _ _

/-- The window at the head of `l ++ rest` is made of `l` and the first three bytes of `rest`, zeros past its end. -/
theorem decodeWindow_append {l : List Byte} (h : l ≠ []) (rest : List Byte) :
    decodeWindow ((l ++ rest).getD 0 0) ((l ++ rest).getD 1 0) ((l ++ rest).getD 2 0) ((l ++ rest).getD 3 0) =
      firstInstr (l ++ [rest.getD 0 0, rest.getD 1 0, rest.getD 2 0]) := by
  match l with
  | [_] | [_, _] | [_, _, _] | _ :: _ :: _ :: _ :: _ => rfl

/-- Bytes that hold the whole of their first instruction are no lone lead bytes, but for a lone DD or FD, which is a whole NONI
(30_encoding R152; log 13). -/
theorem lonePrefix_eq_none {bs : List Byte} (hlen : windowLength (bs.getD 0 0) (bs.getD 1 0) ≤ bs.length)
    (hn : bs ≠ [0xDD] ∧ bs ≠ [0xFD]) : lonePrefix bs = none := by
  match bs with
  | [] | _ :: _ :: _ :: _ => rfl
  | [b0] =>
    have hcb : b0 ≠ 0xCB := by rintro rfl; exact absurd hlen (by decide)
    have hed : b0 ≠ 0xED := by rintro rfl; exact absurd hlen (by decide)
    simp_all [lonePrefix]
  | [b0, b1] =>
    have hdd : ¬(b1 = 0xCB ∧ b0 = 0xDD) := by rintro ⟨rfl, rfl⟩; exact absurd hlen (by decide)
    have hfd : ¬(b1 = 0xCB ∧ b0 = 0xFD) := by rintro ⟨rfl, rfl⟩; exact absurd hlen (by decide)
    simp only [lonePrefix, Bool.and_eq_true, beq_iff_eq, if_neg hdd, if_neg hfd]

/-- Bytes that hold the whole of their first instruction `i` decode to it; a NONI must not stand alone. -/
theorem decode_eq_ok {bs : List Byte} {i : Instr} (hi : decodeWindow (bs.getD 0 0) (bs.getD 1 0) (bs.getD 2 0) (bs.getD 3 0) = i)
    (hlen : windowLength (bs.getD 0 0) (bs.getD 1 0) ≤ bs.length) (hn : i = .noniDd ∨ i = .noniFd → 2 ≤ bs.length) :
    decode bs = .ok (i, bs.drop (windowLength (bs.getD 0 0) (bs.getD 1 0))) := by
  have hlone : bs ≠ [0xDD] ∧ bs ≠ [0xFD] := by
    refine ⟨?_, ?_⟩ <;> rintro rfl
    · exact absurd (hn (.inl hi.symm)) (by decide)
    · exact absurd (hn (.inr hi.symm)) (by decide)
  unfold decode
  rw [lonePrefix_eq_none hlen hlone, ← hi]
  match bs with
  | [] => exact absurd hlen (by decide)
  | _ :: _ => exact if_neg (not_lt.mpr hlen)

/-- Decoding undoes encoding and leaves the bytes that follow (30_encoding R140 to R163). -/
theorem decode_encode (i : Instr) (rest : List Byte) (hwf : i.wf = true) (hp : isPrefixRow i = false)
    (hn : i = .noniDd ∨ i = .noniFd → ∃ b more, rest = b :: more ∧ b ∉ idxOps) : decode (encode i ++ rest) = .ok (i, rest) := by
  have hi : firstInstr (encode i ++ [rest.getD 0 0, rest.getD 1 0, rest.getD 2 0]) = i := by
    refine firstInstr_encode i _ _ _ hwf hp fun h => ?_
    obtain ⟨b, more, rfl, hb⟩ := hn h
    exact hb
  rw [← decodeWindow_append (encode_ne_nil i)] at hi
  have hlen : windowLength ((encode i ++ rest).getD 0 0) ((encode i ++ rest).getD 1 0) = (encode i).length := by
    rw [← length_encode_decodeWindow, hi]
  have hdec := decode_eq_ok hi (hlen.le.trans (by simp)) fun h => ?_
  · rw [hdec, hlen, List.drop_left]
  · obtain ⟨b, more, rfl, -⟩ := hn h
    have hpos := List.length_pos_of_ne_nil (encode_ne_nil i)
    rw [List.length_append, List.length_cons]
    omega

/-- Settles O2: every row reads back, `decode_encode`; the bytes of each of the six other rows are matched as they stand (log 13). -/
theorem decodeOfEncode : Obligations.DecodeOfEncode := by
  refine ⟨decode_encode, fun i hi => ?_⟩
  cases i with
  | prefixCb | prefixDd | prefixEd | prefixFd | prefixDdCb | prefixFdCb => rfl
  | _ => cases hi

/-- Settles O1: the decoder evaluated on each word. -/
theorem decodesSpecWords : Obligations.DecodesSpecWords := by
  refine ⟨?_, ?_, ?_, ?_, ?_, ?_, ?_, ?_, ?_, ?_, ?_⟩ <;> rfl

end Sys2Proof
end

section
/-! Running what was decoded (30_encoding R141, R153; 10_state R25, R30; 60_exceptions R650): the entry a lead byte leads to, and the
fetched instruction of a step. -/

namespace Sys2Proof.Machine

/-- A row that runs the entry it leads to as it stands goes on to a next state (30_encoding R141). -/
theorem runs_prefixEntry {i j : Instr} {s u : State} (he : prefixEntry s i = some (j, u)) (hj : isPrefixRow j = false)
    (hrun : exec i s = runEntry j u) :
    ∃ j u t, prefixEntry s i = some (j, u) ∧ isPrefixRow j = false ∧ exec i s = .next t ∧ exec j u = .next t := by
  obtain ⟨t, _, ht, -, -⟩ := exec_runs u u.events j hj
  rw [runEntry_eq_exec j hj] at hrun
  exact ⟨j, u, t, he, hj, hrun.trans ht, ht⟩

/-- Settles O38: the decoder gives no such row as an entry, and every other instruction goes on (`runs_prefixEntry`). -/
theorem prefixRowRunsItsEntry : Obligations.PrefixRowRunsItsEntry := by
  intro i s hi
  cases i with
  | prefixCb | prefixDd | prefixEd | prefixFd => exact runs_prefixEntry rfl (decodeWindow_not_prefixRow _ _ _ _) rfl
  | prefixDdCb => exact runs_prefixEntry rfl (decodeDdCb_not_prefixRow _ _) rfl
  | prefixFdCb => exact runs_prefixEntry rfl (decodeFdCb_not_prefixRow _ _) rfl
  | _ => cases hi

theorem codeByte_zero (s : State) : s.codeByte 0 = s.memRead s.cpu.pc := congrArg s.memRead (BitVec.add_zero s.cpu.pc)

/-- `R[6:0]` up by `n` modulo 128, `R[7]` kept, as a byte (10_state R30). -/
theorem advanceR_eq_trunc8 (r : Byte) (n : Nat) : advanceR r n = trunc8 (r.toNat / 128 * 128 + (r.toNat + n) % 128) := by
  rw [← advanceR_toNat, trunc8, BitVec.ofNat_toNat, BitVec.setWidth_eq]

/-- The CPU's step when it is not halted: the fetched instruction, then the interrupt unit (60_exceptions R650, R651). -/
theorem step_fetching {s : State} (hturn : s.cpu.cycles < s.vdp.vdpCycles * 2 / 3) (hrun : s.cpu.halted = false) :
    step s = bindOut (exec s.fetched s.afterFetch) State.interruptResolve := by
  have hcpu : s.cpuTurn = true := decide_eq_true hturn
  unfold step State.cpuStep
  rw [if_pos hcpu, hrun]
  rfl

/-- Settles O5: the decoded instruction is the fetched one and `u` the state after the fetch, then `step_fetching`. -/
theorem stepRunsDecodedInstruction : Obligations.StepRunsDecodedInstruction := by
  intro s u i rest hturn hrun hdec hu
  rw [decode_window] at hdec
  obtain ⟨hi, hrest⟩ := Prod.mk.inj (Except.ok.inj hdec)
  have hfetch : s.fetched = i := by
    rw [← hi, ← codeByte_zero]
    rfl
  have hlen : 4 - rest.length = s.fetchedLength := by
    rw [← hrest, List.length_drop, ← codeByte_zero]
    exact Nat.sub_sub_self (windowLength_le_four _ _)
  have hafter : s.afterFetch = u := by
    rw [hu, hlen, ← windowM1_eq, ← advanceR_eq_trunc8, ← codeByte_zero]
    rfl
  rw [step_fetching hturn hrun, hfetch, hafter]

end Sys2Proof.Machine
end

section
/-! The 8-bit loads and the stores of 40_load8 and 41_load16_stack (R201 to R224, R248 to R251): a load writes its operand into one
register or one half of an index register, a store sends its bytes through the mapper, and ordinary writable memory reads them back. -/

namespace Sys2Proof.Machine

/-! ### Ordinary writable memory -/

/-- The two bytes of a word as numbers, low byte first (20_memory R86). -/
theorem wordStores_eq (a v : Word) : wordStores a v = [(a, trunc8 v.toNat), (a + 1, trunc8 (v.toNat / 256))] := by
  have hlo : loByte v = trunc8 v.toNat := BitVec.eq_of_toNat_eq (loByte_toNat v)
  have hhi : hiByte v = trunc8 (v.toNat / 256) := by
    rw [← hiByte_toNat, trunc8, BitVec.ofNat_toNat, BitVec.setWidth_eq]
  rw [wordStores, hlo, hhi]

/-- The next address is another byte of its page, across the end of a slot too (20_memory R81). -/
theorem offsetOf_add_one_ne (a : Word) : offsetOf (a + 1) ≠ offsetOf a := by
  rw [offsetOf_eq, offsetOf_eq, BitVec.toNat_add]
  show (a.toNat + 1) % 65536 % 8192 ≠ _
  omega

/-- A byte stored at an ordinary writable address reads back (20_memory R89, R95). -/
theorem write_read_same {m : Mapper} (h : m.Inv) {a : Word} (ha : m.isControl a = false)
    (hw : m.writable.getLsbD (slotOf a) = true) (thr : Bool) (v : Byte) : (m.write thr a v).1.read a = v := by
  rw [write_ordinary m thr a v ha]
  exact ordinaryWrite_read_same h hw v

/-- A byte stored at an ordinary address leaves a writable address with another offset in its page as it was, wherever the two slots
map (20_memory R89, R95). -/
theorem write_read_other_offset {m : Mapper} (h : m.Inv) {a b : Word} (ha : m.isControl a = false)
    (hb : m.writable.getLsbD (slotOf b) = true) (hne : offsetOf a ≠ offsetOf b) (thr : Bool) (v : Byte) :
    (m.write thr a v).1.read b = m.read b := by
  rw [write_ordinary m thr a v ha]
  refine ordinaryWrite_read m a v b fun htarget => hne ?_
  rw [resolve_of_not_pinned (h.not_pinned_of_writable hb), Mapper.storeTarget, Option.ite_none_right_eq_some] at htarget
  exact (Prod.mk.inj (Option.some.inj htarget.2)).2

/-- No ordinary write changes which slots are writable (20_memory R95). -/
theorem write_ordinary_writable {m : Mapper} {a : Word} (ha : m.isControl a = false) (thr : Bool) (v : Byte) :
    (m.write thr a v).1.writable = m.writable := by
  rw [write_ordinary m thr a v ha]
  exact (ordinaryWrite_frame m a v).2.1

/-- Two bytes stored at ordinary writable addresses with different offsets in their pages both read back (20_memory R86, R89). -/
theorem storeAll_pair_read {m : Mapper} (h : m.Inv) {a b : Word} (ha : m.isControl a = false) (hb : m.isControl b = false)
    (hwa : m.writable.getLsbD (slotOf a) = true) (hwb : m.writable.getLsbD (slotOf b) = true) (hne : offsetOf b ≠ offsetOf a)
    (thr : Bool) (v w : Byte) :
    (storeAll thr m [(a, v), (b, w)]).read a = v ∧ (storeAll thr m [(a, v), (b, w)]).read b = w := by
  have hinv : (m.write thr a v).1.Inv := h.write thr a v
  have hb' : (m.write thr a v).1.isControl b = false := by rwa [write_isControl]
  have hmask : (m.write thr a v).1.writable = m.writable := write_ordinary_writable ha thr v
  constructor
  · exact (write_read_other_offset hinv hb' (by rwa [hmask]) hne thr w).trans (write_read_same h ha hwa thr v)
  · exact write_read_same hinv hb' (by rwa [hmask]) thr w

/-! ### The stores -/

/-- An 8-bit store is one byte written and its cost (40_load8 R206 to R211, R215 to R217). -/
theorem exec_storeForm {i : Instr} {s : State} {a : Word} {v : Byte} (h : storeForm s i = some (a, v)) :
    ∃ n, exec i s = finish n (s.memWrite a v) := by
  cases i with
  | ldMemBcA | ldMemDeA | ldMemNnA | ldMemHlR | ldMemHlN | ldMemIxR | ldMemIxN | ldMemIyR | ldMemIyN => cases h; exact ⟨_, rfl⟩
  | _ => cases h

/-- A 16-bit store is one word written and its cost (41_load16_stack R248 to R251). -/
theorem exec_storeWordForm {i : Instr} {s : State} {a v : Word} (h : storeWordForm s i = some (a, v)) :
    ∃ n, exec i s = finish n (s.memWrite16 a v) := by
  cases i with
  | ldMemNnHl | ldMemNnIx | ldMemNnIy => cases h; exact ⟨_, rfl⟩
  | ldMemNnDd nn dd => cases dd <;> cases h <;> exact ⟨_, rfl⟩
  | _ => cases h

/-- Settles O41: the instruction is one write, `exec_storeForm` or `exec_storeWordForm`, and what it stores reads back,
`write_read_same` and `storeAll_pair_read`. -/
theorem storesWriteTheirBytes : Obligations.StoresWriteTheirBytes := by
  constructor
  · intro i s a v h
    obtain ⟨n, hrun⟩ := exec_storeForm h
    exact ⟨(s.memWrite a v).addCycles n, hrun, rfl, rfl, fun hinv ha hw => write_read_same hinv ha hw _ v⟩
  · intro i s a v h
    obtain ⟨n, hrun⟩ := exec_storeWordForm h
    refine ⟨(s.memWrite16 a v).addCycles n, hrun, ?_, rfl, fun hinv ha hb hwa hwb => ?_⟩
    · rw [State.addCycles_mapper, State.memWrite16_mapper, wordStores_eq]
    · obtain ⟨hlo, hhi⟩ :=
        storeAll_pair_read hinv ha hb hwa hwb (offsetOf_add_one_ne a) s.cfg.segaCtrlWriteThrough (loByte v) (hiByte v)
      rw [State.memRead_eq, State.memRead_eq, State.addCycles_mapper, State.memWrite16_mapper, wordStores, hlo, hhi,
        Nat.add_comm, ← wordOf_toNat, wordOf_hi_lo]

/-! ### The loads -/

/-- An 8-bit load is its operand written into the register and its cost (40_load8 R201 to R205, R212 to R214). -/
theorem exec_loadForm {i : Instr} {s : State} {dst : Reg8} {v : Byte} (h : loadForm s i = some (dst, v)) :
    ∃ n, exec i s = finish n (s.setR8 dst v) := by
  cases i with
  | ldRR | ldRN | ldRMemHl | ldRMemIx | ldRMemIy | ldAMemBc | ldAMemDe | ldAMemNn => cases h; exact ⟨_, rfl⟩
  | _ => cases h

/-- A half of an index register read after a half written (10_state R23). -/
theorem getHalf_setHalf (w : Word) (h k : Half) (v : Byte) : getHalf (setHalf w h v) k = if h = k then v else getHalf w k := by
  cases h <;> cases k <;> simp [getHalf, setHalf]

@[simp] theorem getHalf_setHalf_same (w : Word) (h : Half) (v : Byte) : getHalf (setHalf w h v) h = v := by
  rw [getHalf_setHalf, if_pos rfl]

theorem getHalf_setHalf_other (w : Word) {h k : Half} (hne : k ≠ h) (v : Byte) : getHalf (setHalf w h v) k = getHalf w k := by
  rw [getHalf_setHalf, if_neg hne.symm]

/-- A register of `LD p,p'` read after one written (40_load8 R222). -/
theorem getRegP_setRegPIx (s : State) (p q : RegP) (v : Byte) :
    (s.setRegPIx p v).getRegP (s.setRegPIx p v).cpu.ix q = if p = q then v else s.getRegP s.cpu.ix q := by
  cases p with
  | hi | lo => cases q <;> simp [State.setRegPIx, State.getRegP, setHalf]
  | _ => cases q <;> rfl

/-- A register of `LD q,q'` read after one written (40_load8 R223). -/
theorem getRegP_setRegPIy (s : State) (p q : RegP) (v : Byte) :
    (s.setRegPIy p v).getRegP (s.setRegPIy p v).cpu.iy q = if p = q then v else s.getRegP s.cpu.iy q := by
  cases p with
  | hi | lo => cases q <;> simp [State.setRegPIy, State.getRegP, setHalf]
  | _ => cases q <;> rfl

@[simp] theorem setRegPIx_cpu_f (s : State) (p : RegP) (v : Byte) : (s.setRegPIx p v).cpu.f = s.cpu.f := by cases p <;> rfl

@[simp] theorem setRegPIy_cpu_f (s : State) (p : RegP) (v : Byte) : (s.setRegPIy p v).cpu.f = s.cpu.f := by cases p <;> rfl

/-- Settles O39: a load writes one register, `exec_loadForm` and the meanings of R222 to R224, and every other reads as before,
`getR8_setR8`, `getHalf_setHalf`, `getRegP_setRegPIx` and `getRegP_setRegPIy`. -/
theorem byteLoads : Obligations.ByteLoads := by
  refine ⟨fun i s dst v h => ?_, fun s h n => ⟨?_, ?_⟩, fun s dst src => ⟨?_, ?_⟩⟩
  · obtain ⟨n, hrun⟩ := exec_loadForm h
    have hread (q : Reg8) : ((s.setR8 dst v).addCycles n).getR8 q = if dst = q then v else s.getR8 q := s.getR8_setR8 dst q v
    exact ⟨_, hrun, (hread dst).trans (if_pos rfl), fun q hq => (hread q).trans (if_neg hq.symm), s.setR8_cpu_f dst v⟩
  · exact ⟨_, rfl, getHalf_setHalf_same _ h n, rfl, fun k hk => getHalf_setHalf_other _ hk n⟩
  · exact ⟨_, rfl, getHalf_setHalf_same _ h n, rfl, fun k hk => getHalf_setHalf_other _ hk n⟩
  · have hread (q : RegP) := getRegP_setRegPIx s dst q (s.getRegP s.cpu.ix src)
    exact ⟨_, rfl, (hread dst).trans (if_pos rfl), setRegPIx_cpu_f .., fun q hq => (hread q).trans (if_neg hq.symm)⟩
  · have hread (q : RegP) := getRegP_setRegPIy s dst q (s.getRegP s.cpu.iy src)
    exact ⟨_, rfl, (hread dst).trans (if_pos rfl), setRegPIy_cpu_f .., fun q hq => (hread q).trans (if_neg hq.symm)⟩

/-- S and Z of `LD A,I` and `LD A,R` (40_load8 R218, R219). -/
theorem loadIRFlags_signZero (v : Byte) (iff2 : Bool) (f u : Flags) : SignZero v (loadIRFlags v iff2 f u) :=
  ⟨signBit_eq v, isZero_eq v⟩

/-- Settles O40: the flags are those of `loadIRFlags`, S and Z by `loadIRFlags_signZero`. -/
theorem interruptAndRefreshLoads : Obligations.InterruptAndRefreshLoads := fun _ =>
  ⟨⟨_, rfl, rfl, loadIRFlags_signZero .., rfl, rfl, rfl, rfl⟩, ⟨_, rfl, rfl, loadIRFlags_signZero .., rfl, rfl, rfl, rfl⟩,
    ⟨_, rfl, rfl, rfl⟩, ⟨_, rfl, rfl, rfl⟩⟩

end Sys2Proof.Machine
end

section
/-! The 16-bit loads and the stack of 41_load16_stack (R241 to R247, R252 to R261): a load writes one 16-bit register, a push stores a
word below SP, a pop reads one back, and in ordinary writable memory the word pushed is the word on top. -/

namespace Sys2Proof.Machine

/-! ### The 16-bit loads -/

/-- A 16-bit register written, `State.reg16` its reading (10_state R21, R23, R24). -/
def State.setReg16 (s : State) (r : Reg16) (v : Word) : State :=
  match r with
  | .bc => s.setBc v
  | .de => s.setDe v
  | .hl => s.setHl v
  | .sp => s.setSp v
  | .ix => s.setIx v
  | .iy => s.setIy v

/-- A 16-bit register read after one written (10_state R21, R23, R24). -/
theorem State.reg16_setReg16 (s : State) (r q : Reg16) (v : Word) :
    (s.setReg16 r v).reg16 q = if r = q then v else s.reg16 q := by
  cases r with
  | bc => cases q with
    | bc => exact bc_setBc s v
    | _ => rfl
  | de => cases q with
    | de => exact de_setDe s v
    | _ => rfl
  | hl => cases q with
    | hl => exact hl_setHl s v
    | _ => rfl
  | sp | ix | iy => cases q <;> rfl

@[simp] theorem State.reg16_addCycles (s : State) (n : Nat) (q : Reg16) : (s.addCycles n).reg16 q = s.reg16 q := by cases q <;> rfl

@[simp] theorem State.setReg16_cpu_a (s : State) (r : Reg16) (v : Word) : (s.setReg16 r v).cpu.a = s.cpu.a := by cases r <;> rfl

@[simp] theorem State.setReg16_cpu_f (s : State) (r : Reg16) (v : Word) : (s.setReg16 r v).cpu.f = s.cpu.f := by cases r <;> rfl

/-- The write through a `dd` operand is the one of its register (30_encoding R146). -/
theorem State.setPair_eq_setReg16 (s : State) (dd : Pair) (v : Word) : s.setPair dd v = s.setReg16 (pairReg16 dd) v := by
  cases dd <;> rfl

/-- A 16-bit load is its operand written into the register and its cost (41_load16_stack R241 to R247, R252, R254, R255). -/
theorem exec_loadWordForm {i : Instr} {s : State} {dst : Reg16} {v : Word} (h : loadWordForm s i = some (dst, v)) :
    ∃ n, exec i s = finish n (s.setReg16 dst v) := by
  cases i with
  | ldSpHl | ldSpIx | ldSpIy | ldIxNn | ldIyNn | ldHlMemNn | ldIxMemNn | ldIyMemNn => cases h; exact ⟨_, rfl⟩
  | ldDdNn dd | ldDdMemNn dd => cases h; exact ⟨_, congrArg (finish _) (s.setPair_eq_setReg16 dd _)⟩
  | _ => cases h

/-- Settles O42: a load writes one 16-bit register, `exec_loadWordForm`, and every other reads as before, `State.reg16_setReg16`. -/
theorem wordLoads : Obligations.WordLoads := by
  intro i s dst v h
  obtain ⟨n, hrun⟩ := exec_loadWordForm h
  have hread (q : Reg16) : ((s.setReg16 dst v).addCycles n).reg16 q = if dst = q then v else s.reg16 q :=
    (State.reg16_addCycles ..).trans (s.reg16_setReg16 dst q v)
  exact ⟨_, hrun, (hread dst).trans (if_pos rfl), fun q hq => (hread q).trans (if_neg hq.symm), s.setReg16_cpu_a dst v,
    s.setReg16_cpu_f dst v⟩

/-! ### The stack -/

/-- A push is its word pushed and its cost (41_load16_stack R256 to R258). -/
theorem exec_pushForm {i : Instr} {s : State} {v : Word} (h : pushForm s i = some v) : ∃ n, exec i s = finish n (s.push16 v) := by
  cases i with
  | pushQq | pushIx | pushIy => cases h; exact ⟨_, rfl⟩
  | _ => cases h

/-- The address below SP is the one after the lower byte's. -/
theorem sub_two_add_one (x : Word) : x - 2 + 1 = x - 1 := by bv_omega

/-- A word pushed into ordinary writable memory is on top of the stack (41_load16_stack R253; 20_memory R89). -/
theorem State.stackTop_push16 {s : State} (h : s.mapper.Inv) (hhi : s.mapper.isControl (s.cpu.sp - 1) = false)
    (hlo : s.mapper.isControl (s.cpu.sp - 2) = false) (hwhi : s.mapper.writable.getLsbD (slotOf (s.cpu.sp - 1)) = true)
    (hwlo : s.mapper.writable.getLsbD (slotOf (s.cpu.sp - 2)) = true) (v : Word) : (s.push16 v).stackTop = v := by
  have hne : offsetOf (s.cpu.sp - 2) ≠ offsetOf (s.cpu.sp - 1) := by
    rw [← sub_two_add_one]
    exact (offsetOf_add_one_ne (s.cpu.sp - 2)).symm
  obtain ⟨hreadHi, hreadLo⟩ := storeAll_pair_read h hhi hlo hwhi hwlo hne s.cfg.segaCtrlWriteThrough (hiByte v) (loByte v)
  rw [State.stackTop, State.memRead16, State.memRead_eq, State.memRead_eq, s.push16_mapper, pushStores, s.push16_sp,
    sub_two_add_one, hreadHi, hreadLo, wordOf_hi_lo]

/-- The pair of a pop read after it was written, all eight bits of F in AF (30_encoding R147; 41_load16_stack R259). -/
@[simp] theorem State.getPairQ_setPairQ_same (s : State) (qq : PairQ) (v : Word) : (s.setPairQ qq v).getPairQ qq = v := by
  cases qq with
  | bc => exact bc_setBc s v
  | de => exact de_setDe s v
  | hl => exact hl_setHl s v
  | af =>
    show wordOf (hiByte v) (Flags.ofByte (loByte v)).toByte = v
    rw [Flags.toByte_ofByte, wordOf_hi_lo]

@[simp] theorem State.setPairQ_cpu_sp (s : State) (qq : PairQ) (v : Word) : (s.setPairQ qq v).cpu.sp = s.cpu.sp := by
  cases qq <;> rfl

@[simp] theorem State.getPairQ_addCycles (s : State) (n : Nat) (qq : PairQ) : (s.addCycles n).getPairQ qq = s.getPairQ qq := by
  cases qq <;> rfl

/-- Settles O43: a push is `State.push16`, `exec_pushForm`, and its word is on top, `State.stackTop_push16`; a pop writes the word on top
into its register, AF whole by `State.getPairQ_setPairQ_same`. -/
theorem pushAndPop : Obligations.PushAndPop := by
  refine ⟨fun i s v h => ?_, fun qq s => ?_, fun s => ⟨_, rfl, rfl, rfl⟩, fun s => ⟨_, rfl, rfl, rfl⟩⟩
  · obtain ⟨n, hrun⟩ := exec_pushForm h
    exact ⟨_, hrun, s.push16_sp v, s.push16_mapper v, fun hinv hhi hlo hwhi hwlo => State.stackTop_push16 hinv hhi hlo hwhi hwlo v⟩
  · exact ⟨_, rfl, (State.getPairQ_addCycles ..).trans (State.getPairQ_setPairQ_same ..), State.setPairQ_cpu_sp ..⟩

end Sys2Proof.Machine
end

section
/-! The exchanges and the block instructions of 42_exchange_block (R281 to R295): an exchange writes each of two places with what the other
held, and one iteration of a block instruction moves its pointers, counts BC down and sets PC back while it repeats. -/

namespace Sys2Proof.Machine

/-! ### The exchanges -/

/-- `EXX` exchanges each pair with its shadow (42_exchange_block R282). -/
theorem State.swapPairs_facts (s : State) :
    s.swapPairs.bc = s.cpu.bc' ∧ s.swapPairs.de = s.cpu.de' ∧ s.swapPairs.hl = s.cpu.hl' ∧
      s.swapPairs.cpu.bc' = s.bc ∧ s.swapPairs.cpu.de' = s.de ∧ s.swapPairs.cpu.hl' = s.hl :=
  ⟨wordOf_hi_lo s.cpu.bc', wordOf_hi_lo s.cpu.de', wordOf_hi_lo s.cpu.hl', rfl, rfl, rfl⟩

/-- Replacing the word on top of the stack keeps SP (42_exchange_block R284). -/
@[simp] theorem State.replaceTop_cpu_sp (s : State) (v : Word) : (s.replaceTop v).cpu.sp = s.cpu.sp := rfl

/-- Settles O44: the registers by `State.swapPairs_facts` and by the read of a pair just written, the stores of the three forms on the
stack by `State.replaceTop_mapper`. -/
theorem exchanges : Obligations.Exchanges := by
  intro s
  refine ⟨⟨_, rfl, rfl, rfl, rfl, rfl⟩, ⟨_, rfl, s.swapPairs_facts⟩, ⟨_, rfl, de_setDe s s.hl, hl_setHl (s.setDe s.hl) s.de⟩, ?_, ?_, ?_⟩
  · exact ⟨_, rfl, hl_setHl (s.replaceTop s.hl) s.stackTop, s.replaceTop_cpu_sp s.hl, s.replaceTop_mapper s.hl⟩
  · exact ⟨_, rfl, rfl, s.replaceTop_cpu_sp s.cpu.ix, s.replaceTop_mapper s.cpu.ix⟩
  · exact ⟨_, rfl, rfl, s.replaceTop_cpu_sp s.cpu.iy, s.replaceTop_mapper s.cpu.iy⟩

/-! ### One iteration of a block instruction -/

/-- A pointer moved by an integer step, modulo 65536 (00_scope R7). -/
theorem toNat_add_ofInt (x : Word) (k : Int) : ((x + BitVec.ofInt 16 k).toNat : Int) = (x.toNat + k) % 65536 := by
  rw [BitVec.toNat_add, BitVec.toNat_ofInt]
  omega

/-- A counter taken down by one, modulo 65536 (00_scope R7). -/
theorem toNat_sub_one (x : Word) : ((x - 1).toNat : Int) = (x.toNat - 1) % 65536 := by
  bv_omega

/-- A difference of bytes as a number (42_exchange_block R292). -/
theorem toNat_sub_byte (x y : Byte) : (x - y).toNat = (256 + x.toNat - y.toNat) % 256 := by
  rw [BitVec.toNat_sub]
  omega

/-- A difference is not 0 exactly when the operands differ, as a proposition decided. -/
theorem sub_bne_zero_eq_decide {n : Nat} (x y : BitVec n) : (x - y != 0) = decide (x ≠ y) := by
  rw [sub_bne_zero, bne, Bool.beq_eq_decide_eq, decide_not]

/-- A difference is 0 exactly when the operands are equal. -/
theorem sub_beq_zero {n : Nat} (x y : BitVec n) : (x - y == 0) = decide (x = y) := by
  rw [Bool.beq_eq_decide_eq, decide_eq_decide]
  exact sub_eq_zero

/-- The repeat mechanism under a condition: PC back by 2 exactly where it holds (42_exchange_block R287). -/
theorem repeatWhile_decide (p : Prop) [Decidable p] (s : State) :
    repeatWhile (decide p) s = .next { s with
      cpu.pc := if p then s.cpu.pc - 2 else s.cpu.pc
      cpu.cycles := s.cpu.cycles + if p then 21 else 16 } := by
  simp only [repeatWhile_eq, decide_eq_true_eq]

@[simp] theorem State.blockLoad_bc (s : State) (k : Word) : (s.blockLoad k).bc = s.bc - 1 := wordOf_hi_lo (s.bc - 1)

@[simp] theorem State.blockCompare_bc (s : State) (k : Word) : (s.blockCompare k).bc = s.bc - 1 := wordOf_hi_lo (s.bc - 1)

/-- One iteration of a block transfer moves HL and DE and counts BC down (42_exchange_block R288, R290). -/
theorem State.blockLoad_pairs (s : State) (k : Int) :
    ((s.blockLoad (BitVec.ofInt 16 k)).hl.toNat : Int) = (s.hl.toNat + k) % 65536 ∧
      ((s.blockLoad (BitVec.ofInt 16 k)).de.toNat : Int) = (s.de.toNat + k) % 65536 ∧
      ((s.blockLoad (BitVec.ofInt 16 k)).bc.toNat : Int) = (s.bc.toNat - 1) % 65536 := by
  simp only [State.blockLoad, hl_writeF, hl_setBc, hl_setDe, hl_setHl, de_writeF, de_setBc, de_setDe, bc_writeF, bc_setBc]
  exact ⟨toNat_add_ofInt s.hl k, toNat_add_ofInt s.de k, toNat_sub_one s.bc⟩

/-- One iteration of a block search moves HL and counts BC down (42_exchange_block R292, R294). -/
theorem State.blockCompare_pairs (s : State) (k : Int) :
    ((s.blockCompare (BitVec.ofInt 16 k)).hl.toNat : Int) = (s.hl.toNat + k) % 65536 ∧
      ((s.blockCompare (BitVec.ofInt 16 k)).bc.toNat : Int) = (s.bc.toNat - 1) % 65536 := by
  simp only [State.blockCompare, hl_writeF, hl_setBc, hl_setHl, bc_writeF, bc_setBc]
  exact ⟨toNat_add_ofInt s.hl k, toNat_sub_one s.bc⟩

section
variable {i : Instr} {s : State} {k : Int} {repeats : Bool}

/-- A block transfer is one iteration, repeated by a repeating form unless BC reached 0 (42_exchange_block R287 to R291). -/
theorem exec_blockTransfer
    (h : (i, k, repeats) ∈ [(Instr.ldi, 1, false), (.ldd, -1, false), (.ldir, 1, true), (.lddr, -1, true)]) :
    exec i s = repeatWhile (decide (repeats = true ∧ s.bc ≠ 1)) (s.blockLoad (BitVec.ofInt 16 k)) := by
  have hagain (d : Word) : ((s.blockLoad d).bc != 0) = decide (true = true ∧ s.bc ≠ 1) := by
    simp only [State.blockLoad_bc, sub_bne_zero_eq_decide, true_and]
  simp only [List.mem_cons, List.not_mem_nil, or_false, Prod.mk.injEq] at h
  obtain ⟨rfl, rfl, rfl⟩ | ⟨rfl, rfl, rfl⟩ | ⟨rfl, rfl, rfl⟩ | ⟨rfl, rfl, rfl⟩ := h
  · rfl
  · rfl
  · exact congrArg (repeatWhile · (s.blockLoad 1)) (hagain 1)
  · exact congrArg (repeatWhile · (s.blockLoad (-1))) (hagain (-1))

/-- A block search is one iteration, repeated by a repeating form unless BC reached 0 or the bytes are equal (42_exchange_block R287, R292
to R295). -/
theorem exec_blockSearch
    (h : (i, k, repeats) ∈ [(Instr.cpi, 1, false), (.cpd, -1, false), (.cpir, 1, true), (.cpdr, -1, true)]) :
    exec i s = repeatWhile (decide (repeats = true ∧ s.bc ≠ 1 ∧ s.cpu.a ≠ s.memRead s.hl)) (s.blockCompare (BitVec.ofInt 16 k)) := by
  have hagain (d : Word) : ((s.blockCompare d).bc != 0 && s.cpu.a - s.memRead s.hl != 0) =
      decide (true = true ∧ s.bc ≠ 1 ∧ s.cpu.a ≠ s.memRead s.hl) := by
    simp only [State.blockCompare_bc, sub_bne_zero_eq_decide, true_and, Bool.decide_and]
  simp only [List.mem_cons, List.not_mem_nil, or_false, Prod.mk.injEq] at h
  obtain ⟨rfl, rfl, rfl⟩ | ⟨rfl, rfl, rfl⟩ | ⟨rfl, rfl, rfl⟩ | ⟨rfl, rfl, rfl⟩ := h
  · rfl
  · rfl
  · exact congrArg (repeatWhile · (s.blockCompare 1)) (hagain 1)
  · exact congrArg (repeatWhile · (s.blockCompare (-1))) (hagain (-1))

end

/-- Settles O45: each form is one iteration under the repeat mechanism, `exec_blockTransfer` and `repeatWhile_decide`; the pairs by
`State.blockLoad_pairs`, PV by `sub_bne_zero_eq_decide`. -/
theorem blockTransfers : Obligations.BlockTransfers := by
  intro i s k repeats h
  obtain ⟨hhl, hde, hbc⟩ := s.blockLoad_pairs k
  have hpv := sub_bne_zero_eq_decide s.bc 1
  exact ⟨_, (exec_blockTransfer h).trans (repeatWhile_decide ..), blockLoad_mapper s (BitVec.ofInt 16 k), hhl, hde, hbc, hpv, rfl, rfl, rfl⟩

/-- Settles O46: each form is one iteration under the repeat mechanism, `exec_blockSearch` and `repeatWhile_decide`; the pairs by
`State.blockCompare_pairs`, S and Z from the difference by `signBit_eq` and `sub_beq_zero`, PV by `sub_bne_zero_eq_decide`. -/
theorem blockSearches : Obligations.BlockSearches := by
  intro i s k repeats h
  obtain ⟨hhl, hbc⟩ := s.blockCompare_pairs k
  have hs := signBit_eq (s.cpu.a - s.memRead s.hl)
  have hz := sub_beq_zero s.cpu.a (s.memRead s.hl)
  have hpv := sub_bne_zero_eq_decide s.bc 1
  exact ⟨_, _, (exec_blockSearch h).trans (repeatWhile_decide ..), toNat_sub_byte .., hhl, hbc, hs, hz, rfl, hpv, rfl, rfl⟩

end Sys2Proof.Machine
end

section
/-! The 8-bit arithmetic and logic of 43_alu8 (R321 to R343): the byte operations meet the rules on integers, and every operand form of an
instruction is one operation on A, a register, an index half or a byte of memory. -/

namespace Sys2Proof.Machine

/-! ### The byte operations on integers -/

/-- S and Z taken from a result's bit 7 and from the comparison with 0 (43_alu8 R322, R323, R324, R334, R338). -/
theorem signZero_of_bits {r : Byte} {f : Flags} (hs : f.s = r.getLsbD 7) (hz : f.z = (r == 0)) : SignZero r f :=
  ⟨hs.trans (signBit_eq r), hz.trans (isZero_eq r)⟩

/-- The sum of operands of one sign overflows exactly when the result has the other (43_alu8 R322). -/
theorem addOverflow_eq {a b r : Byte} {c : Bool} (hr : r.toNat = (a.toNat + b.toNat + c.toNat) % 256) :
    (a.getLsbD 7 == b.getLsbD 7 && r.getLsbD 7 != a.getLsbD 7) = outOfSigned 8 (a.toInt + b.toInt + c.toNat) := by
  have hc := c.toNat_le
  rw [Bool.eq_iff_iff]
  simp only [signBit_eq, outOfSigned, BitVec.toInt_eq_toNat_cond, Bool.and_eq_true, Bool.or_eq_true, beq_iff_eq, bne_iff_ne, ne_eq,
    decide_eq_decide, decide_eq_true_eq]
  omega

/-- The difference of operands of unlike signs overflows exactly when the result has not the first's (43_alu8 R323). -/
theorem subOverflow_eq {a b r : Byte} {c : Bool} (hr : r.toNat = (256 + a.toNat - b.toNat - c.toNat) % 256) :
    (a.getLsbD 7 != b.getLsbD 7 && r.getLsbD 7 != a.getLsbD 7) = outOfSigned 8 (a.toInt - b.toInt - c.toNat) := by
  have hc := c.toNat_le
  rw [Bool.eq_iff_iff]
  simp only [signBit_eq, outOfSigned, BitVec.toInt_eq_toNat_cond, Bool.and_eq_true, Bool.or_eq_true, bne_iff_ne, ne_eq,
    decide_eq_decide, decide_eq_true_eq]
  omega

/-- The result of `sub8` as a number (43_alu8 R323). -/
theorem sub8_fst_toNat (a b : Byte) (c : Bool) (u : Flags) :
    (sub8 a b c u).1.toNat = (256 + a.toNat - b.toNat - c.toNat) % 256 := by
  have hc := c.toNat_le
  refine (BitVec.toNat_ofInt ..).trans ?_
  omega

theorem addRule_add8 (a b : Byte) (c : Bool) (u : Flags) : AddRule a b c (add8 a b c u).1 (add8 a b c u).2 where
  result := rfl
  signZero := signZero_of_bits rfl rfl
  h := rfl
  pv := addOverflow_eq rfl
  n := rfl
  c := rfl

theorem subRule_sub8 (a b : Byte) (c : Bool) (u : Flags) : SubRule a b c (sub8 a b c u).1 (sub8 a b c u).2 where
  result := sub8_fst_toNat a b c u
  signZero := signZero_of_bits rfl rfl
  h := decide_eq_decide.mpr (by simp only [lowDigit]; omega)
  pv := subOverflow_eq (sub8_fst_toNat a b c u)
  n := rfl
  c := decide_eq_decide.mpr (by omega)

theorem logicRule_logic8 (r : Byte) (h : Bool) (u : Flags) : LogicRule r h (logic8 r h u) :=
  ⟨signZero_of_bits rfl rfl, rfl, parity_eq_ones r, rfl, rfl⟩

theorem incRule_inc8 (v : Byte) (f u : Flags) : IncRule v (inc8 v f u).1 f (inc8 v f u).2 where
  result := rfl
  signZero := signZero_of_bits rfl rfl
  h := rfl
  pv := by show (v == 0x7F) = _; revert v; decide
  n := rfl
  c := rfl

theorem decRule_dec8 (v : Byte) (f u : Flags) : DecRule v (dec8 v f u).1 f (dec8 v f u).2 where
  result := by rw [dec8_fst, BitVec.toNat_sub, Nat.add_comm]; rfl
  signZero := signZero_of_bits rfl rfl
  h := rfl
  pv := by show (v == 0x80) = _; revert v; decide
  n := rfl
  c := rfl

/-- Settles O47, by `addRule_add8` and `subRule_sub8`. -/
theorem addAndSubByteRules : Obligations.AddAndSubByteRules := fun a b c u => ⟨addRule_add8 a b c u, subRule_sub8 a b c u⟩

/-! ### The operations on A -/

/-- What an operation of the ALU group does with its operand (43_alu8 R325 to R332). -/
def State.alu (s : State) (op : AluOp) (v : Byte) : State :=
  match op with
  | .add => s.aluAdd v
  | .adc => s.aluAdc v
  | .sub => s.aluSub v
  | .sbc => s.aluSbc v
  | .and => s.aluAnd v
  | .xor => s.aluXor v
  | .or => s.aluOr v
  | .cp => s.aluCp v

/-- Every instruction of the ALU group is its operation on its operand and its cost (43_alu8 R321, R333). -/
theorem exec_aluForm {i : Instr} {s : State} {op : AluOp} {v : Byte} (h : aluForm s i = some (op, v)) :
    ∃ n, exec i s = finish n (s.alu op v) := by
  cases i with
  | addAR | addAN | addAMemHl | addAIxHalf | addAMemIx | addAIyHalf | addAMemIy
  | adcAR | adcAN | adcAMemHl | adcAIxHalf | adcAMemIx | adcAIyHalf | adcAMemIy
  | subR | subN | subMemHl | subIxHalf | subMemIx | subIyHalf | subMemIy
  | sbcAR | sbcAN | sbcAMemHl | sbcAIxHalf | sbcAMemIx | sbcAIyHalf | sbcAMemIy
  | andR | andN | andMemHl | andIxHalf | andMemIx | andIyHalf | andMemIy
  | xorR | xorN | xorMemHl | xorIxHalf | xorMemIx | xorIyHalf | xorMemIy
  | orR | orN | orMemHl | orIxHalf | orMemIx | orIyHalf | orMemIy
  | cpR | cpN | cpMemHl | cpIxHalf | cpMemIx | cpIyHalf | cpMemIy => cases h; exact ⟨_, rfl⟩
  | _ => cases h

/-- Settles O48: each form is its operation, `exec_aluForm`, and the operation's bytes are those of `add8` and `sub8`. -/
theorem additionAndSubtraction : Obligations.AdditionAndSubtraction := by
  intro i s v
  refine ⟨fun h => ?add, fun h => ?adc, fun h => ?sub, fun h => ?sbc, fun h => ?cp⟩ <;> obtain ⟨n, hrun⟩ := exec_aluForm h
  case add | adc => exact ⟨_, hrun, addRule_add8 ..⟩
  case sub | sbc => exact ⟨_, hrun, subRule_sub8 ..⟩
  case cp => exact ⟨_, _, hrun, subRule_sub8 .., rfl⟩

/-- Settles O49: each form is its operation, `exec_aluForm`, the flags by `logicRule_logic8`. -/
theorem logicalOperations : Obligations.LogicalOperations := by
  intro i s v
  refine ⟨fun h => ?and, fun h => ?or, fun h => ?xor⟩ <;> obtain ⟨n, hrun⟩ := exec_aluForm h
  case and => exact ⟨_, hrun, logicRule_logic8 .., fun k _ => BitVec.getLsbD_and⟩
  case or => exact ⟨_, hrun, logicRule_logic8 .., fun k _ => BitVec.getLsbD_or⟩
  case xor => exact ⟨_, hrun, logicRule_logic8 .., fun k _ => BitVec.getLsbD_xor⟩

/-! ### Increment and decrement -/

section
variable {R : Byte → Byte → Flags → Flags → Prop} {r : Byte} {g : Flags}

/-- A rule that the byte of a register meets with a result holds of the register once the result is in it (43_alu8 R334, R338). -/
theorem rule_setR8 {s : State} {q : Reg8} (hr : R (s.getR8 q) r s.cpu.f g) :
    R (s.getR8 q) (((s.writeF g).setR8 q r).getR8 q) s.cpu.f ((s.writeF g).setR8 q r).cpu.f := by
  rw [State.getR8_setR8, if_pos rfl, State.setR8_cpu_f]
  exact hr

/-- The same of a half of an index register, whose other half is kept (43_alu8 R342, R343). -/
theorem rule_setHalf {w : Word} {h : Half} {f : Flags} (hr : R (getHalf w h) r f g) :
    R (getHalf w h) (getHalf (setHalf w h r) h) f g ∧ ∀ k, k ≠ h → getHalf (setHalf w h r) k = getHalf w k := by
  rw [getHalf_setHalf_same]
  exact ⟨hr, fun k hk => getHalf_setHalf_other w hk r⟩

end

/-- `INC` and `DEC` of a byte of memory are the operation at its address and their cost (43_alu8 R335 to R337, R339 to R341). -/
theorem exec_incDecForm {i : Instr} {s : State} {up : Bool} {a : Word} (h : incDecForm s i = some (up, a)) :
    ∃ n, exec i s = finish n (if up then s.incMem a else s.decMem a) := by
  cases i with
  | incMemHl | incMemIx | incMemIy | decMemHl | decMemIx | decMemIy => cases h; exact ⟨_, rfl⟩
  | _ => cases h

/-- Settles O50: `incRule_inc8` and `decRule_dec8` hold of a register by `rule_setR8`, of an index half by `rule_setHalf`, and of the byte
stored in memory as they stand, `exec_incDecForm`. -/
theorem incrementAndDecrement : Obligations.IncrementAndDecrement := by
  refine ⟨fun s r => ⟨?_, ?_⟩, fun s h => ⟨?_, ?_, ?_, ?_⟩, fun i s up a h => ?_⟩
  · exact ⟨_, rfl, rule_setR8 (incRule_inc8 _ s.cpu.f s.free)⟩
  · exact ⟨_, rfl, rule_setR8 (decRule_dec8 _ s.cpu.f s.free)⟩
  · exact ⟨_, rfl, rule_setHalf (incRule_inc8 _ s.cpu.f s.free)⟩
  · exact ⟨_, rfl, rule_setHalf (decRule_dec8 _ s.cpu.f s.free)⟩
  · exact ⟨_, rfl, rule_setHalf (incRule_inc8 _ s.cpu.f s.free)⟩
  · exact ⟨_, rfl, rule_setHalf (decRule_dec8 _ s.cpu.f s.free)⟩
  · obtain ⟨n, hrun⟩ := exec_incDecForm h
    cases up with
    | true => exact ⟨_, _, hrun, rfl, fun _ => incRule_inc8 .., nofun⟩
    | false => exact ⟨_, _, hrun, rfl, nofun, fun _ => decRule_dec8 ..⟩

end Sys2Proof.Machine
end

section
/-! The control instructions, `EI` right before an interrupt, and the adjustments of A of 44_general_control (R360 to R376): an instruction
on the control state is its update and its cost, and `DAA` meets its rule on integers. -/

namespace Sys2Proof.Machine

/-! ### The control state -/

/-- Settles O52: the meaning of each instruction is its update of the control state, then its cost. -/
theorem controlInstructions : Obligations.ControlInstructions := by
  intro s
  refine ⟨?nop, ?edX, ?edFields, ?halt, ?di, ?ei, ?im0, ?im0Mirror, ?im1, ?im1Mirror, ?im2, ?im2Mirror, ?noniDd, ?noniFd⟩
  case edX => exact fun y z => ⟨rfl, rfl⟩
  case edFields => exact fun p q z z2 => ⟨rfl, rfl, rfl⟩
  case im0Mirror => exact fun y => rfl
  all_goals rfl

/-! ### `EI` and the interrupt unit -/

/-- The boundary with the inhibit set takes no interrupt: it uses the inhibit up (60_exceptions R610). -/
theorem interruptResolve_inhibited {s : State} (h : s.cpu.intInhibit = true) :
    s.interruptResolve = .next { s with cpu.intInhibit := false } := if_pos h

/-- What `EI` and the boundary after it make of a state (44_general_control R368; 60_exceptions R610). -/
def State.interruptsEnabled (s : State) : State :=
  State.addCycles { s with cpu.iff1 := true, cpu.iff2 := true, cpu.intInhibit := false } 4

/-- The byte 0xFB at PC is `EI` (30_encoding R157). -/
theorem fetched_ei {s : State} (h : s.memRead s.cpu.pc = 0xFB) : s.fetched = .ei := by
  rw [← codeByte_zero] at h
  unfold State.fetched
  rw [h]
  rfl

/-- The fetch of `EI` takes one byte (30_encoding R142). -/
theorem afterFetch_pc_ei {s : State} (h : s.memRead s.cpu.pc = 0xFB) : s.afterFetch.cpu.pc = s.cpu.pc + 1 := by
  have hlen : s.fetchedLength = 1 := by
    rw [← codeByte_zero] at h
    unfold State.fetchedLength
    rw [h]
    rfl
  exact congrArg (s.cpu.pc + BitVec.ofNat 16 ·) hlen

/-- A step that runs `EI` is the fetch and `State.interruptsEnabled`, whatever is pending. -/
theorem step_ei {s : State} (hturn : s.cpu.cycles < s.vdp.vdpCycles * 2 / 3) (hrun : s.cpu.halted = false)
    (hbyte : s.memRead s.cpu.pc = 0xFB) : step s = .next s.afterFetch.interruptsEnabled := by
  rw [step_fetching hturn hrun, fetched_ei hbyte]
  exact interruptResolve_inhibited rfl

/-- `EI` and the boundary after it touch the flip-flops, the inhibit and the counter (10_state R27). -/
theorem interruptsEnabled_does (s : State) (ev : List Event) :
    Does s ev State.interruptsEnabled [.cycles, .intInhibit, .iff2, .iff1] :=
  ((((Performs.start s _).setIff1 true).setIff2 true).setIntInhibit false).addCycles 4

/-- Settles O10, by `step_ei`: `EI` leaves the inhibit set, so the boundary uses it up. -/
theorem noInterruptRightAfterEi : Obligations.NoInterruptRightAfterEi := by
  intro s hturn hrun hbyte
  have hframe := ((afterFetch_does s s.events).trans (interruptsEnabled_does s.afterFetch _)).frame
  exact ⟨_, step_ei hturn hrun hbyte, afterFetch_pc_ei hbyte, rfl, rfl, rfl, hframe.mono (by decide), rfl⟩

/-! ### The adjustments of A -/

theorem daaCorrection_eq (a : Byte) (f : Flags) : daaCorrection a f = daaAmount a f := by
  simp [daaCorrection, daaAmount, lowDigit]

/-- `DAA` after an addition adds the amount (44_general_control R360). -/
theorem daa8_fst_of_add {f : Flags} (hn : f.n = false) (a : Byte) (u : Flags) :
    (daa8 a f u).1.toNat = (a.toNat + daaAmount a f) % 256 := by
  simp [daa8, hn, daaCorrection_eq, trunc8]

/-- `DAA` after a subtraction takes the amount away (44_general_control R360). -/
theorem daa8_fst_of_sub {f : Flags} (hn : f.n = true) (a : Byte) (u : Flags) :
    ((daa8 a f u).1.toNat : Int) = ((a.toNat : Int) - daaAmount a f) % 256 := by
  simp only [daa8, hn, if_true, daaCorrection_eq, BitVec.toNat_ofInt]
  omega

/-- H of `DAA` by the operation before, N (44_general_control R360). -/
theorem daa8_h (a : Byte) (f u : Flags) :
    (daa8 a f u).2.h = if f.n then f.h && decide (a.toNat % 16 < 6) else decide (9 < a.toNat % 16) := rfl

/-- The complement of a byte as a number (44_general_control R361). -/
theorem complement_toNat (a : Byte) : (a ^^^ 0xFF).toNat = 255 - a.toNat :=
  (congrArg BitVec.toNat BitVec.xor_allOnes).trans BitVec.toNat_not

/-- Settles O51: `DAA` by `daa8_fst_of_add` and `daa8_fst_of_sub`, `NEG` and its mirrors as 0 less A by `subRule_sub8`. -/
theorem accumulatorAdjustments : Obligations.AccumulatorAdjustments := by
  intro s
  refine ⟨?daa, ?cpl, ?neg, ?ccf, ?scf⟩
  case daa =>
    refine ⟨_, rfl, fun hn => ⟨daa8_fst_of_add hn _ s.free, ?_⟩, fun hn => ⟨daa8_fst_of_sub hn _ s.free, ?_⟩,
      signZero_of_bits rfl rfl, parity_eq_ones _, rfl, rfl⟩
    · exact (daa8_h _ s.cpu.f s.free).trans (if_neg (by simp [hn]))
    · exact (daa8_h _ s.cpu.f s.free).trans (if_pos hn)
  case cpl => exact ⟨_, rfl, complement_toNat _, rfl, rfl⟩
  case neg =>
    intro y i hi
    obtain rfl | rfl := List.mem_pair.mp hi
    all_goals exact ⟨_, rfl, subRule_sub8 0 s.cpu.a false s.free⟩
  case ccf => exact ⟨_, rfl, rfl, rfl, rfl⟩
  case scf => exact ⟨_, rfl, rfl, rfl, rfl⟩

end Sys2Proof.Machine
end

section
/-! The 16-bit arithmetic of 45_alu16 (R391 to R401): the word operations meet the rules on integers, and an instruction is one of them on
HL or an index register, or a register pair moved by one without flags. -/

namespace Sys2Proof.Machine

/-! ### The word operations on integers -/

/-- Bit 15 as a comparison. -/
theorem wordSignBit_eq (v : Word) : v.getLsbD 15 = decide (32768 ≤ v.toNat) := BitVec.msb_eq_decide v

theorem wordIsZero_eq (v : Word) : (v == 0) = decide (v.toNat = 0) := by
  rw [Bool.beq_eq_decide_eq, decide_eq_decide]
  exact BitVec.toNat_inj.symm

/-- The sum of words of one sign overflows exactly when the result has the other (45_alu16 R392). -/
theorem addWordOverflow_eq {a b r : Word} {c : Bool} (hr : r.toNat = (a.toNat + b.toNat + c.toNat) % 65536) :
    (a.getLsbD 15 == b.getLsbD 15 && r.getLsbD 15 != a.getLsbD 15) = outOfSigned 16 (a.toInt + b.toInt + c.toNat) := by
  have hc := c.toNat_le
  rw [Bool.eq_iff_iff]
  simp only [wordSignBit_eq, outOfSigned, BitVec.toInt_eq_toNat_cond, Bool.and_eq_true, Bool.or_eq_true, beq_iff_eq, bne_iff_ne, ne_eq,
    decide_eq_decide, decide_eq_true_eq]
  omega

/-- The difference of words of unlike signs overflows exactly when the result has not the first's (45_alu16 R393). -/
theorem subWordOverflow_eq {a b r : Word} {c : Bool} (hr : r.toNat = (65536 + a.toNat - b.toNat - c.toNat) % 65536) :
    (a.getLsbD 15 != b.getLsbD 15 && r.getLsbD 15 != a.getLsbD 15) = outOfSigned 16 (a.toInt - b.toInt - c.toNat) := by
  have hc := c.toNat_le
  rw [Bool.eq_iff_iff]
  simp only [wordSignBit_eq, outOfSigned, BitVec.toInt_eq_toNat_cond, Bool.and_eq_true, Bool.or_eq_true, bne_iff_ne, ne_eq,
    decide_eq_decide, decide_eq_true_eq]
  omega

/-- The result of `sbc16` as a number (45_alu16 R393). -/
theorem sbc16_fst_toNat (a b : Word) (c : Bool) (u : Flags) :
    (sbc16 a b c u).1.toNat = (65536 + a.toNat - b.toNat - c.toNat) % 65536 := by
  have hc := c.toNat_le
  refine (BitVec.toNat_ofInt ..).trans ?_
  omega

theorem addWordRule_add16 (a v : Word) (f u : Flags) : AddWordRule a v (add16 a v f u).1 f (add16 a v f u).2 where
  result := rfl
  h := rfl
  n := rfl
  c := rfl
  kept := ⟨rfl, rfl, rfl⟩

theorem adcWordRule_adc16 (a v : Word) (f u : Flags) : AdcWordRule a v (adc16 a v f.c u).1 f (adc16 a v f.c u).2 where
  result := rfl
  s := wordSignBit_eq _
  z := wordIsZero_eq _
  h := rfl
  pv := addWordOverflow_eq rfl
  n := rfl
  c := rfl

theorem sbcWordRule_sbc16 (a v : Word) (f u : Flags) : SbcWordRule a v (sbc16 a v f.c u).1 f (sbc16 a v f.c u).2 where
  result := sbc16_fst_toNat a v f.c u
  s := wordSignBit_eq _
  z := wordIsZero_eq _
  h := decide_eq_decide.mpr (by simp only [lowTwelve]; omega)
  pv := subWordOverflow_eq (sbc16_fst_toNat a v f.c u)
  n := rfl
  c := decide_eq_decide.mpr (by omega)

/-- A word moved down by one, modulo 65536 (45_alu16 R399 to R401). -/
theorem word_sub_one_toNat (v : Word) : (v - 1).toNat = (v.toNat + 65535) % 65536 := by
  rw [BitVec.toNat_sub, Nat.add_comm]
  rfl

/-! ### The operations on HL and on a pair -/

theorem State.addWordRule_addHl (s : State) (v : Word) : AddWordRule s.hl v (s.addHl v).hl s.cpu.f (s.addHl v).cpu.f := by
  rw [State.addHl, hl_setHl]
  exact addWordRule_add16 s.hl v s.cpu.f s.free

theorem State.adcWordRule_adcHl (s : State) (v : Word) : AdcWordRule s.hl v (s.adcHl v).hl s.cpu.f (s.adcHl v).cpu.f := by
  rw [State.adcHl, hl_setHl]
  exact adcWordRule_adc16 s.hl v s.cpu.f s.free

theorem State.sbcWordRule_sbcHl (s : State) (v : Word) : SbcWordRule s.hl v (s.sbcHl v).hl s.cpu.f (s.sbcHl v).cpu.f := by
  rw [State.sbcHl, hl_setHl]
  exact sbcWordRule_sbc16 s.hl v s.cpu.f s.free

/-- The read of a `dd` or `ss` operand is the one of its register (30_encoding R146). -/
theorem State.getPair_eq_reg16 (s : State) (ss : Pair) : s.getPair ss = s.reg16 (pairReg16 ss) := by
  cases ss <;> rfl

/-- A write through a `dd` or `ss` operand keeps F (30_encoding R146). -/
theorem State.setPair_cpu_f (s : State) (ss : Pair) (v : Word) : (s.setPair ss v).cpu.f = s.cpu.f := by
  rw [s.setPair_eq_setReg16, s.setReg16_cpu_f]

/-- A pair reads, whatever the cost added, as it was written (30_encoding R146). -/
theorem State.reg16_setPair_addCycles (s : State) (ss : Pair) (v : Word) (n : Nat) :
    ((s.setPair ss v).addCycles n).reg16 (pairReg16 ss) = v := by
  rw [s.setPair_eq_setReg16, State.reg16_addCycles, State.reg16_setReg16, if_pos rfl]

/-- The operand of `ADD IX,pp` and `ADD IY,rr` in the table of its codes (45_alu16 R394, R395). -/
theorem State.getPairI_mem (s : State) (idx : Word) (p : PairI) :
    (p, s.getPairI idx p) ∈ [(.bc, s.bc), (.de, s.de), (.idx, idx), (.sp, s.cpu.sp)] := by
  cases p <;> simp [State.getPairI]

/-- Settles O53: the additions and subtractions by the rules of `add16`, `adc16` and `sbc16`, on HL through `State.addWordRule_addHl` and
its like; `INC` and `DEC` of a pair by `State.setPair_cpu_f` and `State.reg16_setPair_addCycles`. -/
theorem wordArithmetic : Obligations.WordArithmetic := by
  refine ⟨fun s ss => ?pairs, fun s p => ⟨?addIx, ?addIy⟩, fun s => ⟨?incIx, ?incIy, ?decIx, ?decIy⟩⟩
  case pairs =>
    have hinc := s.reg16_setPair_addCycles ss (s.getPair ss + 1) 6
    have hdec := s.reg16_setPair_addCycles ss (s.getPair ss - 1) 6
    rw [← s.getPair_eq_reg16]
    refine ⟨⟨_, rfl, s.addWordRule_addHl _⟩, ⟨_, rfl, s.adcWordRule_adcHl _⟩, ⟨_, rfl, s.sbcWordRule_sbcHl _⟩, ?inc, ?dec⟩
    case inc => exact ⟨_, rfl, s.setPair_cpu_f ss _, (congrArg BitVec.toNat hinc).trans (BitVec.toNat_add _ 1)⟩
    case dec => exact ⟨_, rfl, s.setPair_cpu_f ss _, (congrArg BitVec.toNat hdec).trans (word_sub_one_toNat _)⟩
  case addIx => exact ⟨_, _, rfl, addWordRule_add16 _ _ s.cpu.f s.free, s.getPairI_mem s.cpu.ix p⟩
  case addIy => exact ⟨_, _, rfl, addWordRule_add16 _ _ s.cpu.f s.free, s.getPairI_mem s.cpu.iy p⟩
  case incIx => exact ⟨_, rfl, rfl, BitVec.toNat_add s.cpu.ix 1⟩
  case incIy => exact ⟨_, rfl, rfl, BitVec.toNat_add s.cpu.iy 1⟩
  case decIx => exact ⟨_, rfl, rfl, word_sub_one_toNat s.cpu.ix⟩
  case decIy => exact ⟨_, rfl, rfl, word_sub_one_toNat s.cpu.iy⟩

end Sys2Proof.Machine
end

section
/-! The rotates and shifts of 46_rotate_shift (R421 to R437): the byte operations meet the rules on integers, and every form of an
instruction is one of them on A, on a register or on a byte of memory; the digit rotates move nibbles between A and memory. -/

namespace Sys2Proof.Machine

/-! ### The byte operations on integers -/

/-- The byte operation of the machine for each row of the CB table (30_encoding R158; 46_rotate_shift R427 to R434). -/
def shift8 : ShiftOp → Byte → Bool → Byte × Bool
  | .rlc => rlc8
  | .rrc => rrc8
  | .rl => rl8
  | .rr => rr8
  | .sla => sla8
  | .sra => sra8
  | .sll => sll8
  | .srl => srl8

theorem shift8_fst (op : ShiftOp) (v : Byte) (f : Flags) : (shift8 op v f.c).1 = op.byte v f := by
  cases op with
  | rlc => exact rlc8_fst v f
  | rrc => exact rrc8_fst v f
  | rl => exact rl8_fst v f
  | rr => exact rr8_fst v f
  | sla => exact sla8_fst v f
  | sra => exact sra8_fst v f
  | sll => exact sll8_fst v f
  | srl => exact srl8_fst v f

/-- The result of the rule is a byte as it stands. -/
theorem ShiftOp.result_lt (op : ShiftOp) (v : Byte) (c : Bool) : op.result v.toNat c.toNat < 256 := by
  have hv := v.isLt
  have hc := c.toNat_le
  cases op <;> simp only [ShiftOp.result] <;> omega

theorem shift8_fst_toNat (op : ShiftOp) (v : Byte) (f : Flags) :
    (shift8 op v f.c).1.toNat = op.result v.toNat f.c.toNat := by
  rw [shift8_fst]
  exact Nat.mod_eq_of_lt (op.result_lt v f.c)

theorem topBit_toNat (v : Byte) : (v.getLsbD 7).toNat = v.toNat / 128 := by
  have hv := v.isLt
  exact (Nat.toNat_testBit v.toNat 7).trans (Nat.mod_eq_of_lt (by omega))

theorem lowBit_toNat (v : Byte) : (v.getLsbD 0).toNat = v.toNat % 2 :=
  (Nat.toNat_testBit v.toNat 0).trans (congrArg (· % 2) (Nat.div_one _))

/-- The carry is bit 7 of an operation to the left, bit 0 of one to the right (46_rotate_shift R427 to R434). -/
theorem shift8_snd_toNat (op : ShiftOp) (v : Byte) (c : Bool) : (shift8 op v c).2.toNat = op.out v.toNat := by
  cases op with
  | rlc | rl | sla | sll => exact topBit_toNat v
  | rrc | rr | sra | srl => exact lowBit_toNat v

theorem shiftRule_shift8 (op : ShiftOp) (v : Byte) (f u : Flags) :
    ShiftRule op v (shift8 op v f.c).1 f (shiftFlags (shift8 op v f.c).1 (shift8 op v f.c).2 u) where
  result := shift8_fst_toNat op v f
  signZero := signZero_of_bits rfl rfl
  h := rfl
  pv := parity_eq_ones _
  n := rfl
  c := shift8_snd_toNat op v f.c

/-! ### The rotates and shifts of A and of a register -/

theorem exec_accumulatorRotate {i : Instr} {op : ShiftOp}
    (h : (i, op) ∈ [(Instr.rlca, ShiftOp.rlc), (.rla, .rl), (.rrca, .rrc), (.rra, .rr)]) (s : State) :
    exec i s = finish 4 (s.rotA (shift8 op)) := by
  fin_cases h <;> rfl

theorem exec_shiftRegForm {i : Instr} {op : ShiftOp} {r : Reg8} (h : shiftRegForm i = some (op, r)) (s : State) :
    exec i s = finish 8 (s.shiftReg (shift8 op) r) := by
  cases i with
  | rlcR | rrcR | rlR | rrR | slaR | sraR | sllR | srlR => cases h; rfl
  | _ => cases h

/-- Settles O54: an instruction is `shift8` of its operation on A (`exec_accumulatorRotate`) or on its register (`exec_shiftRegForm`), and
`shift8` meets the rule, `shiftRule_shift8`. -/
theorem registerShifts : Obligations.RegisterShifts := by
  refine ⟨fun i op s h => ?accumulator, fun i s op r h => ?register⟩
  case accumulator =>
    exact ⟨_, exec_accumulatorRotate h s, shift8_fst_toNat op _ s.cpu.f, shift8_snd_toNat op _ _, rfl, rfl, rfl, rfl, rfl⟩
  case register => exact ⟨_, exec_shiftRegForm h s, rule_setR8 (shiftRule_shift8 op _ s.cpu.f s.free)⟩

/-! ### The rotates and shifts of a byte of memory -/

/-- A rotate or shift of the byte at an address, its result copied where a register is named (46_rotate_shift R425, R435). -/
def State.shiftMemInto (s : State) (op : ShiftOp) (a : Word) : Option Reg8 → State
  | none => s.shiftMem (shift8 op) a
  | some r => s.shiftMemCopy (shift8 op) a r

theorem exec_shiftMemForm {i : Instr} {s : State} {op : ShiftOp} {a : Word} {copy : Option Reg8}
    (h : shiftMemForm s i = some (op, a, copy)) : ∃ n, exec i s = finish n (s.shiftMemInto op a copy) := by
  cases i with
  | rlcMemHl | rlcMemIx | rlcMemIxR | rlcMemIy | rlcMemIyR
  | rrcMemHl | rrcMemIx | rrcMemIxR | rrcMemIy | rrcMemIyR
  | rlMemHl | rlMemIx | rlMemIxR | rlMemIy | rlMemIyR
  | rrMemHl | rrMemIx | rrMemIxR | rrMemIy | rrMemIyR
  | slaMemHl | slaMemIx | slaMemIxR | slaMemIy | slaMemIyR
  | sraMemHl | sraMemIx | sraMemIxR | sraMemIy | sraMemIyR
  | sllMemHl | sllMemIx | sllMemIxR | sllMemIy | sllMemIyR
  | srlMemHl | srlMemIx | srlMemIxR | srlMemIy | srlMemIyR => cases h; exact ⟨_, rfl⟩
  | _ => cases h

section
variable (s : State) (op : ShiftOp) (a : Word)

/-- The byte stored and the flags meet the rule, with a copy as without one (46_rotate_shift R426, R435). -/
theorem State.shiftRule_shiftMemInto (copy : Option Reg8) :
    ShiftRule op (s.memRead a) (op.byte (s.memRead a) s.cpu.f) s.cpu.f (s.shiftMemInto op a copy).cpu.f := by
  rw [← shift8_fst]
  cases copy with
  | none => exact shiftRule_shift8 ..
  | some r =>
    rw [State.shiftMemInto, State.shiftMemCopy, State.setR8_cpu_f]
    exact shiftRule_shift8 ..

theorem State.shiftMemInto_mapper (copy : Option Reg8) :
    (s.shiftMemInto op a copy).mapper =
      storeAll s.cfg.segaCtrlWriteThrough s.mapper [(a, op.byte (s.memRead a) s.cpu.f)] := by
  cases copy with
  | none => exact shiftMem_mapper s (shift8_fst op) a
  | some r => exact shiftMemCopy_mapper s (shift8_fst op) a r

/-- The register of a copy form holds the byte stored, whatever the cost added (46_rotate_shift R435). -/
theorem State.getR8_shiftMemInto (q : Reg8) (n : Nat) :
    ((s.shiftMemInto op a (some q)).addCycles n).getR8 q = op.byte (s.memRead a) s.cpu.f := by
  rw [← shift8_fst]
  exact (State.getR8_setR8 ..).trans (if_pos rfl)

end

/-! ### The digit rotates -/

theorem highNibble_toNat (v : Byte) : (v.extractLsb' 4 4).toNat = v.toNat / 16 := by
  have hv := v.isLt
  rw [BitVec.extractLsb'_toNat, Nat.shiftRight_eq_div_pow]
  exact Nat.mod_eq_of_lt (by omega)

theorem lowNibble_toNat (v : Byte) : (v.extractLsb' 0 4).toNat = v.toNat % 16 := BitVec.extractLsb'_toNat 0 4 v

/-- S, Z and PV from a byte (46_rotate_shift R436; 49_io R522). -/
theorem valueRule_valueFlags (v : Byte) (f u : Flags) : ValueRule v f (valueFlags v f u) :=
  ⟨signZero_of_bits rfl rfl, rfl, parity_eq_ones v, rfl, rfl⟩

/-- Settles O55: a form in memory is `State.shiftMemInto` (`exec_shiftMemForm`), which meets the rule by `State.shiftRule_shiftMemInto`;
the digit rotates store the bytes of `rotateDigitLeft_mapper` and `rotateDigitRight_mapper` and leave two nibbles in A,
`nibbles_toNat`. -/
theorem memoryShifts : Obligations.MemoryShifts := by
  refine ⟨fun i s op a copy h => ?shift, fun s => ⟨?rld, ?rrd⟩⟩
  case shift =>
    obtain ⟨n, hrun⟩ := exec_shiftMemForm h
    exact ⟨_, _, hrun, s.shiftRule_shiftMemInto op a copy, s.shiftMemInto_mapper op a copy,
      fun q hq => hq ▸ s.getR8_shiftMemInto op a q n⟩
  case rld =>
    refine ⟨_, _, rfl, rfl, rotateDigitLeft_mapper s, (nibbles_toNat _ _).trans ?_, valueRule_valueFlags _ s.cpu.f s.free⟩
    rw [highNibble_toNat, highNibble_toNat]
  case rrd =>
    refine ⟨_, _, rfl, rfl, rotateDigitRight_mapper s, (nibbles_toNat _ _).trans ?_, valueRule_valueFlags _ s.cpu.f s.free⟩
    rw [highNibble_toNat, lowNibble_toNat]

end Sys2Proof.Machine
end

section
/-! The bit group of 47_bit (R461 to R474): `SET` and `RES` give one bit of a byte a value and keep the others, `BIT` tests a byte, and every
form of an instruction is one of these on a register or on a byte of memory. -/

namespace Sys2Proof.Machine

/-! ### The byte operations bit by bit -/

/-- The byte operation of `SET` (`true`) and of `RES` (`false`) (47_bit R465, R469). -/
def setRes8 : Bool → Byte → BitVec 3 → Byte
  | true => set8
  | false => res8

theorem getLsbD_bitMask (b : BitVec 3) (k : Nat) : (bitMask b).getLsbD k = decide (k = b.toNat) := by
  refine (BitVec.getLsbD_twoPow b.toNat k).trans ?_
  rw [decide_eq_true b.isLt, Bool.true_and]
  exact decide_eq_decide.mpr eq_comm

/-- The named bit has the value written, every other bit is kept (47_bit R465, R469). -/
theorem getLsbD_setRes8 (set : Bool) (v : Byte) (b : BitVec 3) {k : Nat} (hk : k < 8) :
    (setRes8 set v b).getLsbD k = if k = b.toNat then set else v.getLsbD k := by
  have hones : (0xFF : Byte).getLsbD k = true := by revert k; decide
  cases set with
  | true =>
    rw [setRes8, set8, BitVec.getLsbD_or, getLsbD_bitMask]
    by_cases h : k = b.toNat <;> simp [h]
  | false =>
    rw [setRes8, res8, BitVec.getLsbD_and, BitVec.getLsbD_xor, hones, getLsbD_bitMask]
    by_cases h : k = b.toNat <;> simp [h]

/-! ### `BIT` -/

/-- Every form of `BIT` tests its byte, adds its cost and does nothing else (47_bit R461 to R464, R473). -/
theorem exec_bitForm {i : Instr} {s : State} {b : BitVec 3} {v : Byte} (h : bitForm s i = some (b, v)) :
    ∃ n, exec i s = finish n (s.bitTest v b) := by
  cases i with
  | bitR | bitMemHl | bitMemIx | bitMemIxZ | bitMemIy | bitMemIyZ => cases h; exact ⟨_, rfl⟩
  | _ => cases h

/-- Z is the complement of the bit tested (47_bit R461). -/
theorem bitTest_z (s : State) (v : Byte) (b : BitVec 3) :
    (s.bitTest v b).cpu.f.z = decide (v.toNat / 2 ^ b.toNat % 2 = 0) := by
  show (!v.getLsbD b.toNat) = _
  rw [BitVec.getLsbD, Nat.testBit_eq_decide_div_mod_eq, ← decide_not]
  exact decide_eq_decide.mpr Nat.mod_two_ne_one

/-! ### `SET` and `RES` -/

/-- A byte stored at an address, and copied into a register where one is named (47_bit R466, R470, R474). -/
def State.storeCopy (s : State) (a : Word) (w : Byte) : Option Reg8 → State
  | none => s.memWrite a w
  | some r => (s.memWrite a w).setR8 r w

/-- Every form of `SET` and `RES` in memory stores the byte of `setRes8` and adds its cost (47_bit R466 to R468, R470 to R472, R474). -/
theorem exec_setResForm {i : Instr} {s : State} {set : Bool} {b : BitVec 3} {a : Word} {copy : Option Reg8}
    (h : setResForm s i = some (set, b, a, copy)) :
    ∃ n, exec i s = finish n (s.storeCopy a (setRes8 set (s.memRead a) b) copy) := by
  cases i with
  | setMemHl | setMemIx | setMemIxR | setMemIy | setMemIyR
  | resMemHl | resMemIx | resMemIxR | resMemIy | resMemIyR => cases h; exact ⟨_, rfl⟩
  | _ => cases h

section
variable (s : State) (a : Word) (w : Byte)

theorem State.storeCopy_mapper (copy : Option Reg8) :
    (s.storeCopy a w copy).mapper = (s.mapper.write s.cfg.segaCtrlWriteThrough a w).1 := by
  cases copy with
  | none => exact s.memWrite_mapper a w
  | some r => exact ((s.memWrite a w).setR8_mapper r w).trans (s.memWrite_mapper a w)

theorem State.storeCopy_cpu_f (copy : Option Reg8) : (s.storeCopy a w copy).cpu.f = s.cpu.f := by
  cases copy with
  | none => rfl
  | some r => exact (s.memWrite a w).setR8_cpu_f r w

theorem State.getR8_storeCopy (q : Reg8) : (s.storeCopy a w (some q)).getR8 q = w :=
  (State.getR8_setR8 ..).trans (if_pos rfl)

end

/-- `SET` and `RES` of a register give it the byte of `setRes8`, whatever the cost added (47_bit R465, R469). -/
theorem getLsbD_getR8_setRes8 (s : State) (set : Bool) (b : BitVec 3) (r : Reg8) (n : Nat) :
    ∀ k < 8, (((s.setR8 r (setRes8 set (s.getR8 r) b)).addCycles n).getR8 r).getLsbD k =
      if k = b.toNat then set else (s.getR8 r).getLsbD k := by
  intro k hk
  have hread : ((s.setR8 r (setRes8 set (s.getR8 r) b)).addCycles n).getR8 r = setRes8 set (s.getR8 r) b :=
    (State.getR8_setR8 ..).trans (if_pos rfl)
  rw [hread, getLsbD_setRes8 set _ b hk]

/-- Settles O56: each form is its test (`exec_bitForm`) or a store of the byte of `setRes8` (`exec_setResForm`), whose bits are those of
`getLsbD_setRes8`, as they are in a register (`getLsbD_getR8_setRes8`). -/
theorem bitOperations : Obligations.BitOperations := by
  refine ⟨fun i s b v h => ?bit, fun s b r => ⟨?set, ?res⟩, fun i s set b a copy h => ?memory⟩
  case bit =>
    obtain ⟨n, hrun⟩ := exec_bitForm h
    exact ⟨_, hrun, bitTest_z s v b, rfl, rfl, rfl⟩
  case set => exact ⟨_, rfl, getLsbD_getR8_setRes8 s true b r 8⟩
  case res => exact ⟨_, rfl, getLsbD_getR8_setRes8 s false b r 8⟩
  case memory =>
    obtain ⟨n, hrun⟩ := exec_setResForm h
    exact ⟨_, _, hrun, fun k hk => getLsbD_setRes8 set _ b hk, s.storeCopy_mapper a _ copy, s.storeCopy_cpu_f a _ copy,
      fun q hq => hq ▸ s.getR8_storeCopy a _ q⟩

end Sys2Proof.Machine
end

section
/-! The jumps, calls and returns of 48_jump_call_return (R481 to R501): a relative jump adds a signed displacement, a call pushes PC, a
return pops it, and a condition that fails leaves both PC and the stack as they were. -/

namespace Sys2Proof.Machine

/-! ### Jumps -/

/-- A relative jump adds the signed displacement, modulo 65536 (48_jump_call_return R483). -/
theorem State.jumpRelative_pc (s : State) (e : Byte) :
    ((s.jumpRelative e).cpu.pc.toNat : Int) = (s.cpu.pc.toNat + e.toInt) % 65536 := toNat_add_ofInt s.cpu.pc e.toInt

/-- `JR` under a condition, both ways (48_jump_call_return R484 to R487). -/
theorem State.jrWhen_pc (s : State) (taken : Bool) (e : Byte) :
    ∃ t, s.jrWhen taken e = .next t ∧
      (t.cpu.pc.toNat : Int) = if taken then (s.cpu.pc.toNat + e.toInt) % 65536 else s.cpu.pc.toNat := by
  cases taken with
  | false => exact ⟨_, rfl, rfl⟩
  | true => exact ⟨_, rfl, s.jumpRelative_pc e⟩

/-- Each conditional `JR` is `State.jrWhen` under its flag (48_jump_call_return R484 to R487). -/
theorem exec_jrForm {i : Instr} {s : State} {e : Byte} {taken : Bool}
    (h : (i, taken) ∈ [(Instr.jrNz e, !s.cpu.f.z), (.jrZ e, s.cpu.f.z), (.jrNc e, !s.cpu.f.c), (.jrC e, s.cpu.f.c)]) :
    exec i s = s.jrWhen taken e := by
  simp only [List.mem_cons, List.not_mem_nil, or_false, Prod.mk.injEq] at h
  obtain ⟨rfl, rfl⟩ | ⟨rfl, rfl⟩ | ⟨rfl, rfl⟩ | ⟨rfl, rfl⟩ := h
  all_goals rfl

/-- B counted down by one, modulo 256 (48_jump_call_return R491; 49_io R524). -/
theorem toNat_sub_one_byte (b : Byte) : (b - 1).toNat = (b.toNat + 255) % 256 := by
  rw [BitVec.toNat_sub, Nat.add_comm]
  rfl

/-- `DJNZ` counts B down and jumps unless it reached 0 (48_jump_call_return R491). -/
theorem exec_djnz (s : State) (e : Byte) :
    ∃ t, exec (.djnz e) s = .next t ∧ t.cpu.b = s.cpu.b - 1 ∧
      (t.cpu.pc.toNat : Int) = if t.cpu.b = 0 then (s.cpu.pc.toNat : Int) else (s.cpu.pc.toNat + e.toInt) % 65536 := by
  by_cases hb : s.cpu.b - 1 = 0
  · exact ⟨_, if_neg fun h => bne_iff_ne.mp h hb, rfl, (if_pos hb).symm⟩
  · exact ⟨_, if_pos (bne_iff_ne.mpr hb), rfl, (s.jumpRelative_pc e).trans (if_neg hb).symm⟩

/-- Settles O57: the relative jumps by `State.jumpRelative_pc`, under a condition by `State.jrWhen_pc`, `DJNZ` by `exec_djnz`. -/
theorem jumps : Obligations.Jumps := by
  intro s nn e cc
  refine ⟨⟨_, rfl, rfl⟩, ?jpCc, ⟨_, rfl, rfl⟩, ⟨_, rfl, rfl⟩, ⟨_, rfl, rfl⟩, ⟨_, rfl, s.jumpRelative_pc e⟩,
    fun i taken h => ?jrCc, ?djnz⟩
  case jpCc =>
    refine ⟨_, rfl, ?_⟩
    rw [← condHolds_eq]
    cases condHolds s.cpu.f cc with
    | false | true => rfl
  case jrCc => exact exec_jrForm h ▸ s.jrWhen_pc taken e
  case djnz =>
    obtain ⟨t, hrun, hb, hpc⟩ := exec_djnz s e
    exact ⟨t, hrun, hb ▸ toNat_sub_one_byte s.cpu.b, hpc⟩

/-! ### Calls and returns -/

/-- The target of `RST` as a number (48_jump_call_return R501). -/
theorem rstTarget_toNat (y : BitVec 3) : (rstTarget y).toNat = 8 * y.toNat := by
  have hy := y.isLt
  exact Nat.mod_eq_of_lt (by omega)

/-- A call that is made pushes PC and jumps, whatever its form (48_jump_call_return R492, R493, R501). -/
theorem exec_callForm {i : Instr} {s : State} {target : Word}
    (h : i = .callNn target ∨ (∃ y, i = .rst y ∧ target.toNat = 8 * y.toNat) ∨
      (∃ cc, i = .callCcNn cc target ∧ condTrue s.cpu.f cc = true)) :
    ∃ n, exec i s = finish n (s.callTo target) := by
  obtain rfl | ⟨y, rfl, hy⟩ | ⟨cc, rfl, hcc⟩ := h
  · exact ⟨_, rfl⟩
  · obtain rfl : target = rstTarget y := BitVec.eq_of_toNat_eq (hy.trans (rstTarget_toNat y).symm)
    exact ⟨_, rfl⟩
  · exact ⟨_, if_pos ((condHolds_eq ..).trans hcc)⟩

/-- `RET`, and `RET cc` whose condition holds, pop PC and touch nothing else (48_jump_call_return R494, R495). -/
theorem exec_retForm {i : Instr} {s : State} (h : i = .ret ∨ ∃ cc, i = .retCc cc ∧ condTrue s.cpu.f cc = true) :
    ∃ n, exec i s = finish n s.popPc := by
  obtain rfl | ⟨cc, rfl, hcc⟩ := h
  · exact ⟨_, rfl⟩
  · exact ⟨_, if_pos ((condHolds_eq ..).trans hcc)⟩

/-- `RETN` and its mirrors (48_jump_call_return R499, R500). -/
theorem exec_retnForm {i : Instr} {s : State} (h : i = .retn ∨ ∃ y, i = .retnMirror y) :
    ∃ n, exec i s = finish n s.returnFromNmi := by
  obtain rfl | ⟨y, rfl⟩ := h
  all_goals exact ⟨_, rfl⟩

/-- A call or return whose condition fails does nothing but take its time (48_jump_call_return R493, R495). -/
theorem exec_conditionFails {i : Instr} {s : State} {cc : Cond} {nn : Word} (hcc : condTrue s.cpu.f cc = false)
    (h : i ∈ [Instr.callCcNn cc nn, .retCc cc]) : ∃ n, exec i s = finish n s := by
  have hfails : ¬condHolds s.cpu.f cc = true := by simp [condHolds_eq, hcc]
  obtain rfl | rfl := List.mem_pair.mp h
  · exact ⟨_, if_neg hfails⟩
  · exact ⟨_, if_neg hfails⟩

/-- `RETI` under each policy: PC popped, and the flip-flops (48_jump_call_return R498). -/
theorem State.returnFromInt_rule (s : State) :
    s.returnFromInt.cpu.pc = s.popPc.cpu.pc ∧ s.returnFromInt.cpu.sp = s.popPc.cpu.sp ∧
      (s.cfg.retiIffPolicy = .unchanged → s.returnFromInt.cpu.iff1 = s.cpu.iff1 ∧ s.returnFromInt.cpu.iff2 = s.cpu.iff2) ∧
      (s.cfg.retiIffPolicy = .copyIff2 → s.returnFromInt.cpu.iff1 = s.cpu.iff2 ∧ s.returnFromInt.cpu.iff2 = s.cpu.iff2) ∧
      (s.cfg.retiIffPolicy = .set → s.returnFromInt.cpu.iff1 = true ∧ s.returnFromInt.cpu.iff2 = true) := by
  obtain ⟨hunchanged, hcopy, hset⟩ := s.returnFromInt_facts
  cases hp : s.cfg.retiIffPolicy with
  | unchanged => rw [hunchanged hp]; simp [State.popPc_facts]
  | copyIff2 => rw [hcopy hp]; simp [State.popPc_facts]
  | set => rw [hset hp]; simp

/-- Settles O58: every call that is made is `State.callTo` (`exec_callForm`), every return `State.popPc` with the flip-flops of
`State.returnFromNmi` and `State.returnFromInt_rule`. -/
theorem callsAndReturns : Obligations.CallsAndReturns := by
  refine ⟨fun i s target h => ?call, fun i s cc nn hcc h => ?fails, fun i s h => ?ret⟩
  case call =>
    obtain ⟨n, hrun⟩ := exec_callForm h
    exact ⟨_, hrun, s.callTo_facts target⟩
  case fails =>
    obtain ⟨n, hrun⟩ := exec_conditionFails hcc h
    exact ⟨_, hrun, rfl, rfl, rfl⟩
  case ret =>
    obtain ⟨hpc, hsp, -, hiff2⟩ := s.popPc_facts
    obtain rfl | hi | rfl | hi | hi := h
    · exact ⟨_, rfl, hpc, hsp, by simp, by simp⟩
    · obtain ⟨n, hrun⟩ := exec_retnForm (s := s) (.inl hi)
      exact ⟨_, hrun, hpc, hsp, fun _ => ⟨rfl, hiff2⟩, by simp [hi]⟩
    · obtain ⟨hpc', hsp', hpolicy⟩ := s.returnFromInt_rule
      exact ⟨_, rfl, hpc', hsp', by simp, fun _ => hpolicy⟩
    · obtain ⟨n, hrun⟩ := exec_retnForm (s := s) (.inr hi)
      obtain ⟨y, rfl⟩ := hi
      exact ⟨_, hrun, hpc, hsp, fun _ => ⟨rfl, hiff2⟩, by simp⟩
    · obtain ⟨n, hrun⟩ := exec_retForm (.inr hi)
      obtain ⟨cc, rfl, -⟩ := hi
      exact ⟨_, hrun, hpc, hsp, by simp, by simp⟩

end Sys2Proof.Machine
end

section
/-! Input and output of 49_io (R521 to R536): one access to a port, the flags of an input from the byte read, and one iteration of a block
form, which moves HL, counts B down and sets PC back while it repeats. -/

namespace Sys2Proof.Machine

/-! ### `IN` and `OUT` -/

/-- The flags of `IN (C)` and `IN r,(C)` are those of the byte read (49_io R522, R523). -/
theorem State.inputFlags_valueRule (s : State) : ValueRule (s.ioRead s.bc).1 s.cpu.f s.inputFlags.cpu.f := by
  show ValueRule _ _ (valueFlags _ (s.ioRead s.bc).2.cpu.f _)
  rw [ioRead_cpu]
  exact valueRule_valueFlags ..

/-- Settles O59: each form is one access to its port; the flags of the inputs by `State.inputFlags_valueRule`. -/
theorem inputAndOutput : Obligations.InputAndOutput := by
  intro s n r
  refine ⟨?inA, ?inReg, ⟨_, rfl, s.inputFlags_valueRule, rfl⟩, rfl, rfl, rfl⟩
  case inA =>
    have hflags : (s.ioRead (wordOf s.cpu.a n)).2.cpu.f = s.cpu.f := by rw [ioRead_cpu]
    exact ⟨_, rfl, rfl, rfl, hflags⟩
  case inReg =>
    refine ⟨(s.inputReg r).addCycles 12, rfl, (State.getR8_setR8 ..).trans (if_pos rfl), ?_, State.setR8_vdp ..⟩
    rw [State.addCycles_cpu_f, State.inputReg, State.setR8_cpu_f]
    exact s.inputFlags_valueRule

/-! ### One iteration of a block form -/

/-- The registers one iteration of a block input or output leaves, `k` the step of HL and `u` the free flags (49_io R524, R531, R533). -/
def Cpu.blockIo (c : Cpu) (hl k : Word) (u : Flags) : Cpu :=
  { c with b := c.b - 1, h := hiByte (hl + k), l := loByte (hl + k), f := blockIoFlags (c.b - 1) c.f u }

theorem State.blockIn_cpu (s : State) (k : Word) : (s.blockIn k).cpu = s.cpu.blockIo s.hl k (s.ioRead s.bc).2.free := by
  simp [State.blockIn, State.setHl, State.writeF, State.free, Cpu.blockIo, State.setR8]

theorem State.blockOut_cpu (s : State) (k : Word) : (s.blockOut k).cpu = s.cpu.blockIo s.hl k s.free := by
  simp [State.blockOut, State.setHl, State.writeF, State.free, Cpu.blockIo, State.setR8]

/-- A port write does not touch the registers, and reads none but the cycle count (60_exceptions R641). -/
theorem ioWrite_setR8 (s : State) (r : Reg8) (b : Byte) (port : Word) (v : Byte) :
    (s.setR8 r b).ioWrite port v = (s.ioWrite port v).setR8 r b := by
  unfold State.ioWrite
  split <;> cases r <;> rfl

/-- One iteration of a block output is one access to its port, addressed by the new B (49_io R533, R535). -/
theorem State.blockOut_port (s : State) (k : Word) :
    (s.blockOut k).vdp = (s.ioWrite (wordOf (s.cpu.b - 1) s.cpu.c) (s.memRead s.hl)).vdp ∧
      (s.blockOut k).events = (s.ioWrite (wordOf (s.cpu.b - 1) s.cpu.c) (s.memRead s.hl)).events := by
  have hport := ioWrite_setR8 s .b (s.cpu.b - 1) (wordOf (s.cpu.b - 1) s.cpu.c) (s.memRead s.hl)
  have hvdp := congrArg State.vdp hport
  have hevents := congrArg State.events hport
  exact ⟨hvdp, hevents⟩

/-- A count that is not 0, as a repeating form tests it. -/
theorem bne_zero_eq_decide {n : Nat} (x : BitVec n) : (x != 0) = decide (true = true ∧ x ≠ 0) := by
  simp [bne, Bool.beq_eq_decide_eq]

section
variable {i : Instr} {s : State} {k : Int} {repeats : Bool}

/-- A block input is one iteration, repeated by a repeating form unless B reached 0 (49_io R524 to R528). -/
theorem exec_blockInput
    (h : (i, k, repeats) ∈ [(Instr.ini, 1, false), (.ind, -1, false), (.inir, 1, true), (.indr, -1, true)]) :
    exec i s = repeatWhile (decide (repeats = true ∧ (s.blockIn (BitVec.ofInt 16 k)).cpu.b ≠ 0)) (s.blockIn (BitVec.ofInt 16 k)) := by
  simp only [List.mem_cons, List.not_mem_nil, or_false, Prod.mk.injEq] at h
  obtain ⟨rfl, rfl, rfl⟩ | ⟨rfl, rfl, rfl⟩ | ⟨rfl, rfl, rfl⟩ | ⟨rfl, rfl, rfl⟩ := h
  · rfl
  · rfl
  · exact congrArg (repeatWhile · (s.blockIn 1)) (bne_zero_eq_decide _)
  · exact congrArg (repeatWhile · (s.blockIn (-1))) (bne_zero_eq_decide _)

/-- A block output likewise (49_io R533 to R536). -/
theorem exec_blockOutput
    (h : (i, k, repeats) ∈ [(Instr.outi, 1, false), (.outd, -1, false), (.otir, 1, true), (.otdr, -1, true)]) :
    exec i s =
      repeatWhile (decide (repeats = true ∧ (s.blockOut (BitVec.ofInt 16 k)).cpu.b ≠ 0)) (s.blockOut (BitVec.ofInt 16 k)) := by
  simp only [List.mem_cons, List.not_mem_nil, or_false, Prod.mk.injEq] at h
  obtain ⟨rfl, rfl, rfl⟩ | ⟨rfl, rfl, rfl⟩ | ⟨rfl, rfl, rfl⟩ | ⟨rfl, rfl, rfl⟩ := h
  · rfl
  · rfl
  · exact congrArg (repeatWhile · (s.blockOut 1)) (bne_zero_eq_decide _)
  · exact congrArg (repeatWhile · (s.blockOut (-1))) (bne_zero_eq_decide _)

/-- The registers after one iteration under the repeat mechanism (49_io R524, R527, R531, R533). -/
theorem repeatWhile_blockIo {u t : State} {w : Flags} (hu : u.cpu = s.cpu.blockIo s.hl (BitVec.ofInt 16 k) w)
    (ht : repeatWhile (decide (repeats = true ∧ u.cpu.b ≠ 0)) u = .next t) :
    (t.hl.toNat : Int) = (s.hl.toNat + k) % 65536 ∧ t.cpu.b.toNat = (s.cpu.b.toNat + 255) % 256 ∧
      t.cpu.f.z = decide (t.cpu.b = 0) ∧ t.cpu.f.n = true ∧ t.cpu.f.c = s.cpu.f.c ∧
      t.cpu.pc = if repeats = true ∧ t.cpu.b ≠ 0 then s.cpu.pc - 2 else s.cpu.pc := by
  rw [repeatWhile_decide, hu] at ht
  obtain rfl := (Host.Outcome.next.inj ht).symm
  refine ⟨?_, toNat_sub_one_byte s.cpu.b, Bool.beq_eq_decide_eq _ _, rfl, rfl, rfl⟩
  exact (congrArg (fun v : Word => (v.toNat : Int)) (wordOf_hi_lo (s.hl + BitVec.ofInt 16 k))).trans (toNat_add_ofInt s.hl k)

end

/-- Settles O60: each form is one iteration under the repeat mechanism (`exec_blockInput`, `exec_blockOutput`), whose registers are those of
`Cpu.blockIo`, by `repeatWhile_blockIo`. -/
theorem blockInputAndOutput : Obligations.BlockInputAndOutput := by
  refine ⟨fun i s k repeats h => ?input, fun i s k repeats h => ?output⟩
  case input =>
    have hrun := (exec_blockInput (s := s) h).trans (repeatWhile_decide ..)
    have hregs := repeatWhile_blockIo (s.blockIn_cpu _) ((exec_blockInput h).symm.trans hrun)
    exact ⟨_, hrun, rfl, blockIn_mapper s (BitVec.ofInt 16 k), hregs⟩
  case output =>
    have hrun := (exec_blockOutput (s := s) h).trans (repeatWhile_decide ..)
    have hregs := repeatWhile_blockIo (s.blockOut_cpu _) ((exec_blockOutput h).symm.trans hrun)
    obtain ⟨hvdp, hevents⟩ := s.blockOut_port (BitVec.ofInt 16 k)
    exact ⟨_, hrun, hvdp, hevents, hregs⟩

end Sys2Proof.Machine
end

section
/-! What every instruction costs (the column `cycles` of the opcode table; 70_reset_and_hazards R721): it goes on to a next state, and the
cycle count is up by its entry in the table `cycleCost`. -/

namespace Sys2Proof.Machine

/-- The outcome goes on, the cycle count up by `n`. -/
def Costs (s : State) (o : Out) (n : Nat) : Prop := ∃ t, o = .next t ∧ t.cpu.cycles = s.cpu.cycles + n

/-- An instruction whose effect leaves the counter alone costs what is added at its end (30_encoding R141). -/
theorem Costs.finish {s u : State} {n : Nat} (h : u.cpu.cycles = s.cpu.cycles) : Costs s (finish n u) n :=
  ⟨_, rfl, congrArg (· + n) h⟩

/-- The repeat mechanism that stops where `p` holds (42_exchange_block R287; 49_io R527). -/
theorem Costs.repeatWhile {s u : State} {again : Bool} {p : Prop} [Decidable p] (hagain : again = decide ¬p)
    (h : u.cpu.cycles = s.cpu.cycles) : Costs s (repeatWhile again u) (if p then 16 else 21) := by
  by_cases hp : p
  · rw [hagain, if_pos hp, decide_eq_false (not_not.mpr hp)]
    exact .finish h
  · rw [hagain, if_neg hp, decide_eq_true hp]
    exact .finish h

section
variable (s : State)

theorem State.setPair_cpu_cycles (p : Pair) (v : Word) : (s.setPair p v).cpu.cycles = s.cpu.cycles := by cases p <;> rfl
theorem State.setPairQ_cpu_cycles (p : PairQ) (v : Word) : (s.setPairQ p v).cpu.cycles = s.cpu.cycles := by cases p <;> rfl
theorem State.setRegPIx_cpu_cycles (p : RegP) (v : Byte) : (s.setRegPIx p v).cpu.cycles = s.cpu.cycles := by cases p <;> rfl
theorem State.setRegPIy_cpu_cycles (p : RegP) (v : Byte) : (s.setRegPIy p v).cpu.cycles = s.cpu.cycles := by cases p <;> rfl

theorem State.returnFromInt_cpu_cycles : s.returnFromInt.cpu.cycles = s.cpu.cycles := by
  unfold State.returnFromInt
  dsimp only
  split <;> rfl

theorem State.jumpWhen_cpu_cycles (taken : Bool) (target : Word) :
    (if taken then s.setPc target else s).cpu.cycles = s.cpu.cycles := by
  cases taken with
  | false | true => rfl

theorem State.blockLoad_cpu_cycles (k : Word) : (s.blockLoad k).cpu.cycles = s.cpu.cycles := by simp [State.blockLoad]
theorem State.blockCompare_cpu_cycles (k : Word) : (s.blockCompare k).cpu.cycles = s.cpu.cycles := by simp [State.blockCompare]
theorem ioRead_cpu_cycles (port : Word) : (s.ioRead port).2.cpu.cycles = s.cpu.cycles := by rw [ioRead_cpu]
theorem ioWrite_cpu_cycles (port : Word) (v : Byte) : (s.ioWrite port v).cpu.cycles = s.cpu.cycles := by rw [ioWrite_cpu]
theorem State.blockIn_cpu_cycles (k : Word) : (s.blockIn k).cpu.cycles = s.cpu.cycles := by rw [s.blockIn_cpu]; rfl
theorem State.blockOut_cpu_cycles (k : Word) : (s.blockOut k).cpu.cycles = s.cpu.cycles := by rw [s.blockOut_cpu]; rfl

/-- A jump taken while its flag is set (48_jump_call_return R484, R486). -/
theorem jrWhen_costs (flag : Bool) (e : Byte) : Costs s (s.jrWhen flag e) (if flag then 12 else 7) := by
  cases flag with
  | false | true => exact .finish rfl

/-- A jump taken while its flag is clear (48_jump_call_return R485, R487). -/
theorem jrWhen_not_costs (flag : Bool) (e : Byte) : Costs s (s.jrWhen (!flag) e) (if flag then 7 else 12) := by
  cases flag with
  | false | true => exact .finish rfl

theorem djnz_costs (e : Byte) : Costs s (execDjnz e s) (if s.cpu.b = 1 then 8 else 13) := by
  show Costs s (if s.cpu.b - 1 != 0 then _ else _) _
  rw [sub_bne_zero_eq_decide]
  by_cases hb : s.cpu.b = 1
  · rw [if_pos hb, if_neg (by simp [hb])]
    exact .finish rfl
  · rw [if_neg hb, if_pos (decide_eq_true hb)]
    exact .finish rfl

/-- A call or return under a condition, both ways (48_jump_call_return R493, R495). -/
theorem whenCond_costs (cc : Cond) {m n : Nat} {u : State} (h : u.cpu.cycles = s.cpu.cycles) :
    Costs s (if condHolds s.cpu.f cc then finish m u else finish n s) (if condTrue s.cpu.f cc then m else n) := by
  rw [condHolds_eq]
  split
  · exact .finish h
  · exact .finish rfl

/-- When the repeating forms stop (42_exchange_block R287; 49_io R527). -/
theorem blockLoad_again (k : Word) : ((s.blockLoad k).bc != 0) = decide ¬s.bc = 1 := by
  rw [State.blockLoad_bc, sub_bne_zero_eq_decide]

theorem blockIn_again (k : Word) : ((s.blockIn k).cpu.b != 0) = decide ¬s.cpu.b = 1 := by
  rw [s.blockIn_cpu, Cpu.blockIo, sub_bne_zero_eq_decide]

theorem blockOut_again (k : Word) : ((s.blockOut k).cpu.b != 0) = decide ¬s.cpu.b = 1 := by
  rw [s.blockOut_cpu, Cpu.blockIo, sub_bne_zero_eq_decide]

theorem blockSearch_again (k : Word) : ((s.blockCompare k).bc != 0 && s.cpu.a - s.memRead s.hl != 0) =
    decide ¬(s.bc = 1 ∨ s.memRead s.hl = s.cpu.a) := by
  simp only [State.blockCompare_bc, sub_bne_zero_eq_decide, ← Bool.decide_and, not_or, ne_eq, eq_comm]

/-- Every instruction goes on at its cost (60_exceptions R601; 70_reset_and_hazards R721). -/
theorem exec_costs (i : Instr) (hi : isPrefixRow i = false) : Costs s (exec i s) (cycleCost s i) := by
  cases i with
  | prefixCb | prefixDd | prefixEd | prefixFd | prefixDdCb | prefixFdCb => cases hi
  -- the cost depends on the state
  | jrZ | jrC => exact jrWhen_costs s _ _
  | jrNz | jrNc => exact jrWhen_not_costs s _ _
  | djnz => exact djnz_costs s _
  | callCcNn | retCc => exact whenCond_costs s _ rfl
  | ldir | lddr => exact .repeatWhile (blockLoad_again s _) (s.blockLoad_cpu_cycles _)
  | cpir | cpdr => exact .repeatWhile (blockSearch_again s _) (s.blockCompare_cpu_cycles _)
  | inir | indr => exact .repeatWhile (blockIn_again s _) (s.blockIn_cpu_cycles _)
  | otir | otdr => exact .repeatWhile (blockOut_again s _) (s.blockOut_cpu_cycles _)
  -- the destination is an operand
  | ldRN | ldRMemHl | ldRR | ldRMemIx | ldRMemIy | incR | decR | rlcR | rrcR | rlR | rrR | slaR | sraR | sllR | srlR
  | rlcMemIxR | rlcMemIyR | rrcMemIxR | rrcMemIyR | rlMemIxR | rlMemIyR | rrMemIxR | rrMemIyR | slaMemIxR | slaMemIyR
  | sraMemIxR | sraMemIyR | sllMemIxR | sllMemIyR | srlMemIxR | srlMemIyR | resR | setR | resMemIxR | resMemIyR
  | setMemIxR | setMemIyR => exact .finish (State.setR8_cpu_cycles ..)
  | ldDdNn | ldDdMemNn | incSs | decSs => exact .finish (s.setPair_cpu_cycles _ _)
  | popQq => exact .finish (State.setPairQ_cpu_cycles ..)
  | ldPPIx => exact .finish (s.setRegPIx_cpu_cycles _ _)
  | ldPPIy => exact .finish (s.setRegPIy_cpu_cycles _ _)
  -- the effect depends on the state
  | jpCcNn => exact .finish (s.jumpWhen_cpu_cycles _ _)
  | reti => exact .finish s.returnFromInt_cpu_cycles
  | inAN | inC => exact .finish (ioRead_cpu_cycles s _)
  | inRC => exact .finish ((State.setR8_cpu_cycles ..).trans (ioRead_cpu_cycles s _))
  | outNA | outCR | outC0 => exact .finish (ioWrite_cpu_cycles s _ _)
  | ldi | ldd => exact .finish (s.blockLoad_cpu_cycles _)
  | cpi | cpd => exact .finish (s.blockCompare_cpu_cycles _)
  | ini | ind => exact .finish (s.blockIn_cpu_cycles _)
  | outi | outd => exact .finish (s.blockOut_cpu_cycles _)
  -- every other instruction updates named registers and memory
  | _ => exact .finish rfl

end

/-- Settles O34, by `exec_costs`. -/
theorem everyInstructionCompletes : Obligations.EveryInstructionCompletes := fun i s hi => exec_costs s i hi

/-- Both values of a conditional cost lie within the bounds. -/
theorem ite_within {p : Prop} [Decidable p] {lo hi m n : Nat} (hm : lo ≤ m ∧ m ≤ hi) (hn : lo ≤ n ∧ n ≤ hi) :
    lo ≤ (if p then m else n) ∧ (if p then m else n) ≤ hi := by
  split
  · exact hm
  · exact hn

/-- No entry of the table is below 4 or above 23 (70_reset_and_hazards R721). -/
theorem cycleCost_bounds (s : State) (i : Instr) (hi : isPrefixRow i = false) : 4 ≤ cycleCost s i ∧ cycleCost s i ≤ 23 := by
  cases i with
  | prefixCb | prefixDd | prefixEd | prefixFd | prefixDdCb | prefixFdCb => cases hi
  | jrNz | jrZ | jrNc | jrC | djnz | callCcNn | retCc | ldir | lddr | cpir | cpdr | inir | indr | otir | otdr =>
    exact ite_within (by decide) (by decide)
  | _ => exact ⟨Nat.le_of_ble_eq_true rfl, Nat.le_of_ble_eq_true rfl⟩

end Sys2Proof.Machine
end

section
/-! Whose turn a step is and what the interrupt unit does at a boundary (60_exceptions R610 to R616, R620, R650, R651): every part of a step
goes on but for the refusal of mode 0, and what a CPU step costs. -/

namespace Sys2Proof.Machine

/-! ### The interrupt unit -/

/-- The VDP's line: either pending bit under its enable (60_exceptions R620). -/
theorem Vdp.intLine_iff (d : Vdp) :
    d.intLine = true ↔
      d.status.frameInt = true ∧ d.reg[1].getLsbD 5 = true ∨ d.status.lineInt = true ∧ d.reg[0].getLsbD 4 = true := by
  simp only [Vdp.intLine, Bool.or_eq_true, Bool.and_eq_true]

section
variable {s : State}

theorem interruptResolve_nmi (hinhibit : s.cpu.intInhibit = false) (hnmi : s.cpu.nmiPending = true) :
    s.interruptResolve = .next s.nmiEntry := by
  unfold State.interruptResolve
  rw [hinhibit, hnmi]
  rfl

/-- With no inhibit and no NMI the unit looks at IFF1 and the VDP's line (60_exceptions R610). -/
theorem interruptResolve_maskable (hinhibit : s.cpu.intInhibit = false) (hnmi : s.cpu.nmiPending = false) :
    s.interruptResolve = if s.cpu.iff1 && s.vdp.intLine then s.maskableEntry else .next s := by
  unfold State.interruptResolve
  rw [hinhibit, hnmi]
  rfl

end

/-- Settles O7: the branches by `interruptResolve_inhibited`, `interruptResolve_nmi` and `interruptResolve_maskable`, the line by
`Vdp.intLine_iff`. -/
theorem interruptPriority : Obligations.InterruptPriority := by
  intro s
  refine ⟨interruptResolve_inhibited, interruptResolve_nmi, fun hinhibit hnmi => ?_⟩
  rw [interruptResolve_maskable hinhibit hnmi, ← s.vdp.intLine_iff, ← Bool.and_eq_true]
  exact ⟨fun h => if_pos h, fun h => if_neg h⟩

/-! ### Entries -/

/-- The state in which an interrupt is taken: the request cleared (NMI) or IFF2 cleared (maskable; 60_exceptions R611, R612). -/
def State.acknowledging (s : State) (nmiPending iff2 : Bool) : State := { s with cpu.nmiPending := nmiPending, cpu.iff2 := iff2 }

/-- What an interrupt entry does, from the state before its acknowledgement (60_exceptions R616). -/
theorem State.acknowledging_enters (s : State) (nmiPending iff2 : Bool) (target : Word) (cost : Nat) :
    EntersInterrupt s ((s.acknowledging nmiPending iff2).takeInterrupt target cost) target cost := by
  have hack : changesOnly s (s.acknowledging nmiPending iff2) [.iff2, .nmiPending] :=
    (setNmiPending_frame s nmiPending).trans (setIff2_frame _ iff2)
  obtain ⟨hpc, hsp, hiff1, hhalted, hr, hcycles, hstack, hframe⟩ :=
    (s.acknowledging nmiPending iff2).takeInterrupt_enters target cost
  exact ⟨hpc, hsp, hiff1, hhalted, hr, hcycles, hstack, (hack.trans hframe).mono (by simp)⟩

/-- Taking the interrupt leaves what the acknowledgement made of IFF2 and `nmi_pending` (60_exceptions R611, R612). -/
theorem State.takeInterrupt_flipFlops (s : State) (target : Word) (cost : Nat) :
    (s.takeInterrupt target cost).cpu.iff2 = s.cpu.iff2 ∧ (s.takeInterrupt target cost).cpu.nmiPending = s.cpu.nmiPending := by
  simp [State.takeInterrupt, State.callTo, State.push16]

/-- Settles O8, by `State.acknowledging_enters` and `State.takeInterrupt_flipFlops`. -/
theorem nmiEntrySavesPcAndJumps : Obligations.NmiEntrySavesPcAndJumps := by
  refine ⟨fun s => ?_, rfl, rfl⟩
  obtain ⟨hiff2, hnmi⟩ := (s.acknowledging false s.cpu.iff2).takeInterrupt_flipFlops s.cfg.nmiVector s.cfg.nmiCost
  refine ⟨?_, ?_, ?_, interruptResolve_nmi⟩
  · exact s.acknowledging_enters false s.cpu.iff2 _ _
  · exact hiff2
  · exact hnmi

/-- The form `11 ttt 111` as arithmetic (60_exceptions R613). -/
theorem busByteIsRst_eq_decide (b : Byte) : busByteIsRst b = decide (b.toNat % 8 = 7 ∧ 192 ≤ b.toNat) := by revert b; decide

/-- The target of the RST on the bus (60_exceptions R613). -/
theorem busByte_target (b : Byte) : wordOf 0 (b &&& 0x38) = trunc16 (b.toNat / 8 % 8 * 8) := by revert b; decide

section
variable {s : State}

theorem maskableEntry_im0_rst (him : s.cpu.im = .im0) (hrst : busByteIsRst s.cfg.intBusByte = true) :
    s.maskableEntry = .next ((s.acknowledging s.cpu.nmiPending false).takeInterrupt
      (trunc16 (s.cfg.intBusByte.toNat / 8 % 8 * 8)) s.cfg.im0Cost) := by
  unfold State.maskableEntry
  rw [him, ← busByte_target]
  exact if_pos hrst

theorem maskableEntry_im0_refused (him : s.cpu.im = .im0) (hrst : busByteIsRst s.cfg.intBusByte = false) :
    s.maskableEntry = .refused (.mode0BusByteNotRst s.cfg.intBusByte) := by
  unfold State.maskableEntry
  rw [him]
  exact if_neg (by simp [hrst])

theorem maskableEntry_im1 (him : s.cpu.im = .im1) :
    s.maskableEntry = .next ((s.acknowledging s.cpu.nmiPending false).takeInterrupt s.cfg.im1Vector s.cfg.im1Cost) := by
  unfold State.maskableEntry
  rw [him]
  rfl

/-- The vector of mode 2 is read before the push (60_exceptions R615). -/
theorem maskableEntry_im2 (him : s.cpu.im = .im2) :
    s.maskableEntry = .next ((s.acknowledging s.cpu.nmiPending false).takeInterrupt
      (s.memRead16 (wordOf s.cpu.i s.cfg.intBusByte)) s.cfg.im2Cost) := by
  unfold State.maskableEntry
  rw [him]
  rfl

end

/-- A maskable entry into the state after its acknowledgement (60_exceptions R612, R616). -/
theorem maskableEntry_enters {s : State} {target : Word} {cost : Nat}
    (h : s.maskableEntry = .next ((s.acknowledging s.cpu.nmiPending false).takeInterrupt target cost)) :
    ∃ t, s.maskableEntry = .next t ∧ EntersInterrupt s t target cost ∧ t.cpu.iff2 = false ∧ t.cpu.nmiPending = s.cpu.nmiPending :=
  ⟨_, h, s.acknowledging_enters .., State.takeInterrupt_flipFlops ..⟩

/-- Settles O9: each mode by its lemma above, the entry by `maskableEntry_enters`. -/
theorem maskableEntryByMode : Obligations.MaskableEntryByMode := by
  refine fun s => ⟨fun him h7 h192 => ?rst, fun him hno => ?refused, fun him => ?im1, fun him => ?im2⟩
  case rst =>
    have hrst := (busByteIsRst_eq_decide _).trans (decide_eq_true ⟨h7, h192⟩)
    exact maskableEntry_enters (maskableEntry_im0_rst him hrst)
  case refused => exact maskableEntry_im0_refused him ((busByteIsRst_eq_decide _).trans (decide_eq_false hno))
  case im1 => exact maskableEntry_enters (maskableEntry_im1 him)
  case im2 => exact maskableEntry_enters (maskableEntry_im2 him)

/-! ### Whose turn it is -/

/-- Settles O6: the two branches of the step, the halted tick counting R by `advanceR_eq_trunc8`. -/
theorem stepTakesTurns : Obligations.StepTakesTurns := by
  refine fun s => ⟨fun hreached => ?line, fun hbehind hhalted => ?halted⟩
  case line => exact if_neg fun hturn => Nat.not_lt.mpr hreached (of_decide_eq_true hturn)
  case halted =>
    have hcpu : s.cpuTurn = true := decide_eq_true hbehind
    unfold step State.cpuStep
    rw [if_pos hcpu, if_pos hhalted, ← advanceR_eq_trunc8]
    rfl

/-! ### Every part of a step goes on, but for the refusal in mode 0 -/

/-- The outcome goes on, or is the refusal of a bus byte that is no RST (60_exceptions R601, R613). -/
def GoesOnUnlessBusByte (cfg : Config) (o : Out) : Prop :=
  goesOn o ∨ busByteIsRst cfg.intBusByte = false ∧ o = .refused (.mode0BusByteNotRst cfg.intBusByte)

theorem maskableEntry_outcome (s : State) : GoesOnUnlessBusByte s.cfg s.maskableEntry := by
  cases him : s.cpu.im with
  | im0 =>
    cases hrst : busByteIsRst s.cfg.intBusByte with
    | true => exact .inl ⟨_, maskableEntry_im0_rst him hrst⟩
    | false => exact .inr ⟨hrst, maskableEntry_im0_refused him hrst⟩
  | im1 => exact .inl ⟨_, maskableEntry_im1 him⟩
  | im2 => exact .inl ⟨_, maskableEntry_im2 him⟩

theorem interruptResolve_outcome (s : State) : GoesOnUnlessBusByte s.cfg s.interruptResolve := by
  unfold State.interruptResolve
  split_ifs
  · exact .inl ⟨_, rfl⟩
  · exact .inl ⟨_, rfl⟩
  · exact maskableEntry_outcome s
  · exact .inl ⟨_, rfl⟩

/-- No instruction changes the parameters (00_scope R5). -/
theorem exec_cfg {i : Instr} {s t : State} (hi : isPrefixRow i = false) (h : exec i s = .next t) : t.cfg = s.cfg := by
  refine exec_frame hi h .cfg fun hm => ?_
  exact isSystemWriter_of_written (p := .cfg) (by decide) (List.mem_of_ne_of_mem (by decide) hm)

/-- Before the interrupt unit a CPU step goes on at a cost of 4 to 23 cycles, under the same parameters: a halted tick or the fetched
instruction (60_exceptions R650). -/
theorem cpuStep_eq (s : State) :
    ∃ (u : State) (n : Nat), s.cpuStep = u.interruptResolve ∧ u.cfg = s.cfg ∧ u.cpu.cycles = s.cpu.cycles + n ∧ 4 ≤ n ∧ n ≤ 23 := by
  cases hhalted : s.cpu.halted with
  | true => exact ⟨s.haltedTick, 4, by rw [State.cpuStep, if_pos hhalted]; rfl, rfl, rfl, by decide⟩
  | false =>
    have hi := fetched_not_prefixRow s
    obtain ⟨u, hu, hcycles⟩ := exec_costs s.afterFetch s.fetched hi
    have hcfg : u.cfg = s.afterFetch.cfg := exec_cfg hi hu
    refine ⟨u, _, ?_, hcfg, hcycles, cycleCost_bounds _ _ hi⟩
    rw [State.cpuStep, if_neg (by simp [hhalted]), State.instructionStep, hu]
    rfl

theorem cpuStep_outcome (s : State) : GoesOnUnlessBusByte s.cfg s.cpuStep := by
  obtain ⟨u, _, hstep, hcfg, -⟩ := cpuStep_eq s
  rw [hstep, ← hcfg]
  exact interruptResolve_outcome u

/-- With an RST on the bus every CPU step goes on (60_exceptions R601, R613). -/
theorem cpuStep_goesOn {s : State} (hrst : busByteIsRst s.cfg.intBusByte = true) : goesOn s.cpuStep :=
  (cpuStep_outcome s).resolve_right fun h => by simp [hrst] at h

/-- Settles O17: a line step goes on, a CPU step stops with that refusal alone, `cpuStep_outcome`. -/
theorem onlyMode0BusByteStops : Obligations.OnlyMode0BusByteStops := by
  intro s
  cases hturn : s.cpuTurn with
  | false =>
    have hstep : step s = .next s.vdpLineStep := if_neg (by simp [hturn])
    simp [hstep]
  | true =>
    have hstep : step s = s.cpuStep := if_pos hturn
    rw [hstep]
    refine ⟨fun hbus => cpuStep_goesOn ((busByteIsRst_eq_decide _).trans (decide_eq_true hbus)), fun r hr => ?_, fun f hf => ?_⟩
    all_goals obtain ⟨t, ht⟩ | ⟨-, ht⟩ := cpuStep_outcome s
    · cases ht.symm.trans hr
    · exact ⟨(Host.Outcome.refused.inj (ht.symm.trans hr)).symm, of_decide_eq_true hturn⟩
    · cases ht.symm.trans hf
    · cases ht.symm.trans hf

/-! ### What a CPU step costs -/

/-- The interrupt unit adds nothing or the cost of one entry (60_exceptions R611 to R615). -/
theorem interruptResolve_cycles {s t : State} (h : s.interruptResolve = .next t) :
    ∃ cost ∈ [0, s.cfg.nmiCost, s.cfg.im0Cost, s.cfg.im1Cost, s.cfg.im2Cost], t.cpu.cycles = s.cpu.cycles + cost := by
  obtain rfl | rfl | hm | rfl := interruptResolve_next h
  · exact ⟨0, by simp, rfl⟩
  · exact ⟨s.cfg.nmiCost, by simp, (s.acknowledging_enters false s.cpu.iff2 _ _).cycles⟩
  · obtain ⟨target, cost, rfl, hcost⟩ := maskableEntry_next hm
    have henters := s.acknowledging_enters s.cpu.nmiPending false target cost
    exact ⟨cost, List.mem_cons_of_mem _ (List.mem_cons_of_mem _ hcost), henters.cycles⟩
  · exact ⟨0, by simp, rfl⟩

/-- Settles O19: an instruction or a tick costs 4 to 23 cycles, `cpuStep_eq`, and an entry at most 19 more, `interruptResolve_cycles`. -/
theorem cpuStepCostBounds : Obligations.CpuStepCostBounds := by
  intro s t h
  obtain ⟨u, n, hstep, hcfg, hn, hmin, hmax⟩ := cpuStep_eq s
  obtain ⟨cost, hcost, ht⟩ := interruptResolve_cycles (hstep.symm.trans h)
  refine ⟨by omega, fun ⟨hnmi, him0, him1, him2⟩ => ?_⟩
  have hentry : cost ≤ 19 := by
    rw [hcfg, hnmi, him0, him1, him2] at hcost
    revert cost
    simp
  omega

end Sys2Proof.Machine
end

section
/-! The VDP's ports (60_exceptions R640 to R648): its address register as arithmetic, what each access does to it, and which access a port
stands for. -/

namespace Sys2Proof.Machine

/-! ### The address register -/

section
variable (d : Vdp)

theorem Vdp.addr_eq : d.addr = d.codeAddr.toNat % 0x4000 := BitVec.extractLsb'_toNat 0 14 d.codeAddr

theorem Vdp.code_toNat : d.code.toNat = d.codeAddr.toNat / 0x4000 := by
  have h := d.codeAddr.isLt
  rw [Vdp.code, BitVec.extractLsb'_toNat, Nat.shiftRight_eq_div_pow]
  exact Nat.mod_eq_of_lt (by omega)

theorem Vdp.cramIndex_val : d.cramIndex.val = d.codeAddr.toNat % 32 := BitVec.extractLsb'_toNat 0 5 d.codeAddr

/-- The address advanced modulo 0x4000, the code kept (60_exceptions R643, R644). -/
theorem Vdp.nextAddr_codeAddr :
    d.nextAddr.codeAddr.toNat = d.codeAddr.toNat / 0x4000 * 0x4000 + (d.codeAddr.toNat + 1) % 0x4000 := by
  have hlow := (d.codeAddr.extractLsb' 0 14 + 1).isLt
  refine (BitVec.toNat_append (d.codeAddr.extractLsb' 14 2) (d.codeAddr.extractLsb' 0 14 + 1)).trans ?_
  rw [Nat.shiftLeft_eq, Nat.mul_comm, ← Nat.two_pow_add_eq_or_of_lt hlow, ← Vdp.code, Vdp.code_toNat]
  simp
  omega

end

/-! ### The control port -/

/-- The first byte goes into the low half (60_exceptions R643). -/
theorem Vdp.controlWrite_first {d : Vdp} (h : d.firstWrite = false) (v : Byte) :
    (d.controlWrite v).1 = { d with codeAddr := wordOf (hiByte d.codeAddr) v, firstWrite := true } := by
  unfold Vdp.controlWrite
  rw [h]
  rfl

/-- The VDP once the second byte is in the high half (60_exceptions R643). -/
def Vdp.addressed (d : Vdp) (v : Byte) : Vdp := { d with codeAddr := wordOf v (loByte d.codeAddr), firstWrite := false }

theorem Vdp.addressed_codeAddr (d : Vdp) (v : Byte) :
    (d.addressed v).codeAddr.toNat = 256 * v.toNat + d.codeAddr.toNat % 256 := by
  rw [← loByte_toNat]
  exact wordOf_toNat v _

theorem Vdp.addressed_code (d : Vdp) (v : Byte) : (d.addressed v).code.toNat = v.toNat / 64 := by
  rw [Vdp.code_toNat, Vdp.addressed_codeAddr]
  omega

section
variable {d : Vdp} (h : d.firstWrite = true) (v : Byte)
include h

/-- The second byte with code 0 sets up a read (60_exceptions R643). -/
theorem Vdp.controlWrite_read (hcode : v.toNat / 64 = 0) : (d.controlWrite v).1 = (d.addressed v).prefetch := by
  rw [← d.addressed_code v] at hcode
  unfold Vdp.controlWrite
  rw [if_pos h]
  dsimp only
  split
  case h_1 => rfl
  case h_2 hregister => cases hcode.symm.trans hregister
  case h_3 hread _ => exact absurd hcode hread

/-- The second byte with code 2 writes a register (60_exceptions R643). -/
theorem Vdp.controlWrite_register (hcode : v.toNat / 64 = 2) :
    (d.controlWrite v).1 = { d.addressed v with reg := d.reg.set (vdpRegIndex v) (loByte d.codeAddr) } := by
  have hlo : loByte (d.addressed v).codeAddr = loByte d.codeAddr := loByte_wordOf v _
  rw [← d.addressed_code v] at hcode
  rw [← hlo]
  unfold Vdp.controlWrite
  rw [if_pos h]
  dsimp only
  split
  case h_1 hread => cases hcode.symm.trans hread
  case h_2 => rfl
  case h_3 _ hregister => exact absurd hcode hregister

/-- The second byte with another code sets the address alone (60_exceptions R643). -/
theorem Vdp.controlWrite_address (hread : v.toNat / 64 ≠ 0) (hregister : v.toNat / 64 ≠ 2) :
    (d.controlWrite v).1 = d.addressed v := by
  rw [← d.addressed_code v] at hread hregister
  unfold Vdp.controlWrite
  rw [if_pos h]
  dsimp only
  split
  case h_1 hcode => exact absurd hcode hread
  case h_2 hcode => exact absurd hcode hregister
  case h_3 => rfl

end

/-- The index of a register write is the byte's low digit (60_exceptions R643). -/
theorem vdpRegIndex_val (v : Byte) : (vdpRegIndex v).val = v.toNat % 16 := BitVec.extractLsb'_toNat 0 4 v

/-- The read set up by a second byte below 64: the code is 0, so the address is the two bytes (60_exceptions R643). -/
theorem Vdp.addressed_prefetch (d : Vdp) {v : Byte} (hv : v.toNat < 64) :
    (d.addressed v).prefetch = { d with
      codeAddr := trunc16 ((256 * v.toNat + d.codeAddr.toNat % 256 + 1) % 0x4000)
      firstWrite := false
      readBuffer := Memory.read d.vram (256 * v.toNat + d.codeAddr.toNat % 256) } := by
  have haddr : (d.addressed v).addr = 256 * v.toNat + d.codeAddr.toNat % 256 := by
    rw [Vdp.addr_eq, Vdp.addressed_codeAddr]
    omega
  have hnext : (d.addressed v).nextAddr.codeAddr = trunc16 ((256 * v.toNat + d.codeAddr.toNat % 256 + 1) % 0x4000) := by
    apply BitVec.eq_of_toNat_eq
    rw [Vdp.nextAddr_codeAddr, Vdp.addressed_codeAddr, trunc16, BitVec.toNat_ofNat]
    omega
  rw [← hnext, ← haddr]
  rfl

/-- Settles O25: the first byte by `Vdp.controlWrite_first`, the second by the code it sets, with the address and the register index as
numbers. -/
theorem vdpControlPort : Obligations.VdpControlPort := by
  intro d v
  refine ⟨fun h => d.controlWrite_first h v, fun h hread hregister => ?address, fun h hcode => ?register, fun h hv => ?read⟩
  case address => exact Vdp.controlWrite_address h v (by omega) hregister
  case register =>
    rw [Vdp.controlWrite_register h v hcode]
    simp only [vdpRegIndex_val]
    rfl
  case read => rw [Vdp.controlWrite_read h v (by omega), d.addressed_prefetch hv]

/-! ### The data port and the status port -/

section
variable (d : Vdp) (v : Byte)

/-- The VDP after a data write (60_exceptions R644), by the code. -/
theorem Vdp.dataWrite_eq : d.dataWrite v = Vdp.nextAddr { d with
    firstWrite := false
    readBuffer := v
    cram := if d.code = 3 then d.cram.set d.cramIndex v else d.cram
    vram := if d.code = 3 then d.vram else Memory.write d.vram d.addr v } := by
  unfold Vdp.dataWrite
  by_cases hcode : d.code = 3
  · rw [if_pos hcode, if_pos hcode]
    exact congrArg (fun u : Vdp => Vdp.nextAddr { u with readBuffer := v }) (if_pos hcode)
  · rw [if_neg hcode, if_neg hcode]
    exact congrArg (fun u : Vdp => Vdp.nextAddr { u with readBuffer := v }) (if_neg hcode)

theorem Vdp.code_eq_three : d.code = 3 ↔ d.codeAddr.toNat / 0x4000 = 3 := by
  rw [← d.code_toNat]
  exact ⟨fun h => congrArg BitVec.toNat h, fun h => BitVec.eq_of_toNat_eq h⟩

/-- With code 3 a data write goes to CRAM (60_exceptions R644). -/
theorem Vdp.dataWrite_cram (hcode : d.codeAddr.toNat / 0x4000 = 3) :
    (d.dataWrite v).vram = d.vram ∧
      ∀ k : Fin 32, (d.dataWrite v).cram[k] = if k.val = d.codeAddr.toNat % 32 then v else d.cram[k] := by
  have hc := d.code_eq_three.mpr hcode
  rw [d.dataWrite_eq v, if_pos hc, if_pos hc, ← d.cramIndex_val]
  refine ⟨rfl, fun k => ?_⟩
  simp only [eq_comm (a := k.val)]
  exact Vector.getElem_set d.cramIndex.isLt k.isLt

/-- With any other code it goes to VRAM (60_exceptions R644). -/
theorem Vdp.dataWrite_vram (hcode : d.codeAddr.toNat / 0x4000 ≠ 3) :
    (d.dataWrite v).cram = d.cram ∧ (Memory.wf vramSize d.vram = true → ∀ k,
      Memory.read (d.dataWrite v).vram k = if k = d.codeAddr.toNat % 0x4000 then v else Memory.read d.vram k) := by
  have hc := mt d.code_eq_three.mp hcode
  rw [d.dataWrite_eq v, if_neg hc, if_neg hc, ← d.addr_eq]
  refine ⟨rfl, fun hwf k => ?_⟩
  split
  case isTrue hk => exact hk ▸ Memory.read_write_same hwf d.addr v
  case isFalse hk => exact Memory.read_write_other d.vram v hk

/-- The byte a status read answers as a number (60_exceptions R645). -/
theorem VdpStatus.visible_toNat (st : VdpStatus) :
    st.visible.toNat = 128 * st.frameInt.toNat + 64 * st.sprOvf.toNat + 32 * st.sprCol.toNat := by
  obtain ⟨frameInt, sprOvf, sprCol, lineInt⟩ := st
  revert frameInt sprOvf sprCol lineInt
  decide

/-- A data write touches nothing else of the VDP (60_exceptions R644). -/
theorem Vdp.dataWrite_frame : { d.dataWrite v with
    codeAddr := d.codeAddr, firstWrite := d.firstWrite, readBuffer := d.readBuffer, cram := d.cram, vram := d.vram } = d := by
  rw [d.dataWrite_eq v]
  rfl

/-- A data write fills the buffer, clears the toggle and advances the address (60_exceptions R644). -/
theorem Vdp.dataWrite_address : (d.dataWrite v).readBuffer = v ∧ (d.dataWrite v).firstWrite = false ∧
    (d.dataWrite v).codeAddr.toNat = d.codeAddr.toNat / 0x4000 * 0x4000 + (d.codeAddr.toNat + 1) % 0x4000 := by
  rw [d.dataWrite_eq v]
  exact ⟨rfl, rfl, d.nextAddr_codeAddr⟩

end

/-- Settles O26: a data write by `Vdp.dataWrite_eq` and the two cases of its code, a data read by `Vdp.nextAddr_codeAddr`, the status byte
by `VdpStatus.visible_toNat`. -/
theorem vdpDataAndStatusPorts : Obligations.VdpDataAndStatusPorts := by
  intro d v
  obtain ⟨hbuffer, hfirst, haddress⟩ := d.dataWrite_address v
  refine ⟨hbuffer, hfirst, haddress, d.dataWrite_cram v, d.dataWrite_vram v, d.dataWrite_frame v, rfl, ?_, rfl, ?_, rfl, ?_, rfl⟩
  · exact congrArg (Memory.read d.vram) d.addr_eq
  · exact d.nextAddr_codeAddr
  · exact d.status.visible_toNat

/-! ### The port map -/

/-- Bits 7 and 6 of a port as a number (60_exceptions R640). -/
theorem port_high (port : Word) : (port.extractLsb' 6 2).toNat = port.toNat / 64 % 4 := by
  rw [BitVec.extractLsb'_toNat, Nat.shiftRight_eq_div_pow]

/-- Bit 0 of a port as a number (60_exceptions R640). -/
theorem port_low (port : Word) : port.getLsbD 0 = decide (port.toNat % 2 = 1) := by
  rw [BitVec.getLsbD, Nat.testBit_zero]

theorem port_even {port : Word} (h : port.toNat % 2 = 0) : port.getLsbD 0 = false := by
  rw [port_low, h]
  rfl

theorem port_odd {port : Word} (h : port.toNat % 2 = 1) : port.getLsbD 0 = true := by
  rw [port_low, h]
  rfl

/-- The V counter fits a byte on every line (60_exceptions R648). -/
theorem vCounter_toNat {tv : TvSystem} {v : Nat} (hv : v < tv.totalLines) :
    (tv = .ntsc → (vCounter tv v).toNat = if v ≤ 0xDA then v else v - 6) ∧
      (tv = .pal → (vCounter tv v).toNat = if v ≤ 0xF2 then v else (v - 57) % 256) := by
  refine ⟨?_, ?_⟩ <;> rintro rfl
  · have hlines : v < 262 := hv
    refine (BitVec.toNat_ofNat ..).trans ?_
    split <;> omega
  · have hlines : v < 313 := hv
    refine (BitVec.toNat_ofNat ..).trans ?_
    split <;> omega

section
variable {s : State} {port : Word}

/-- The V counter port answers the counter and changes nothing (60_exceptions R640, R648). -/
theorem ioRead_vCounter (h : port.toNat / 64 % 4 = 1) (heven : port.toNat % 2 = 0) :
    s.ioRead port = (vCounter s.cfg.tv s.vdp.v, s) := by
  unfold State.ioRead
  rw [port_high, h, port_even heven]
  rfl

/-- The H counter port answers a free value (60_exceptions R640, R648; log 7). -/
theorem ioRead_hCounter (h : port.toNat / 64 % 4 = 1) (hodd : port.toNat % 2 = 1) :
    s.ioRead port = (Config.freeHCounter s.draws, { s with draws := s.draws + 1 }) := by
  unfold State.ioRead
  rw [port_high, h, port_odd hodd]
  rfl

theorem ioRead_data (h : port.toNat / 64 % 4 = 2) (heven : port.toNat % 2 = 0) :
    s.ioRead port = (s.vdp.dataRead.1, { s with vdp := s.vdp.dataRead.2 }) := by
  unfold State.ioRead
  rw [port_high, h, port_even heven]
  rfl

theorem ioRead_status (h : port.toNat / 64 % 4 = 2) (hodd : port.toNat % 2 = 1) :
    s.ioRead port = (s.vdp.statusRead.1, { s with vdp := s.vdp.statusRead.2 }) := by
  unfold State.ioRead
  rw [port_high, h, port_odd hodd]
  rfl

theorem ioRead_unmapped (h : port.toNat / 64 % 4 = 0) : s.ioRead port = (0xFF, s) := by
  unfold State.ioRead
  rw [port_high, h]
  rfl

/-- The two input latches (60_exceptions R640, R647). -/
theorem ioRead_joypads (h : port.toNat / 64 % 4 = 3) :
    s.ioRead port = (if port.toNat % 2 = 0 then s.joypad0 else s.joypad1, s) := by
  unfold State.ioRead
  obtain heven | hodd := Nat.mod_two_eq_zero_or_one port.toNat
  · rw [port_high, h, port_even heven, if_pos heven]
    rfl
  · rw [port_high, h, port_odd hodd, if_neg (by omega)]
    rfl

end

theorem setDraws_frame (s : State) (n : Nat) : changesOnly s { s with draws := n } [.draws] := by
  intro p hp; cases p <;> simp_all [Part.same]

/-- Settles O27: each row of the map by its lemma above, the V counter's byte by `vCounter_toNat`. -/
theorem ioReadMap : Obligations.IoReadMap := by
  refine fun s port hv =>
    ⟨ioRead_unmapped, fun h heven => ?vCounter, fun h hodd => ?hCounter, ioRead_data, ioRead_status, ioRead_joypads⟩
  case vCounter =>
    rw [ioRead_vCounter h heven]
    exact ⟨rfl, vCounter_toNat hv⟩
  case hCounter =>
    rw [ioRead_hCounter h hodd]
    exact setDraws_frame s (s.draws + 1)

section
variable {s : State} {port : Word} {v : Byte}

theorem ioWrite_unmapped (h : port.toNat / 64 % 4 = 0 ∨ port.toNat / 64 % 4 = 3) : s.ioWrite port v = s := by
  unfold State.ioWrite
  obtain h | h := h
  · rw [port_high, h]
    rfl
  · rw [port_high, h]
    rfl

/-- The sound port's event has the cycle count at the start of the instruction (60_exceptions R646). -/
theorem ioWrite_sound (h : port.toNat / 64 % 4 = 1) : s.ioWrite port v = s.emit [.soundWrite s.cpu.cycles v] := by
  unfold State.ioWrite
  rw [port_high, h]
  rfl

theorem ioWrite_data (h : port.toNat / 64 % 4 = 2) (heven : port.toNat % 2 = 0) :
    s.ioWrite port v = { s with vdp := s.vdp.dataWrite v } := by
  unfold State.ioWrite
  rw [port_high, h, port_even heven]
  rfl

theorem ioWrite_control (h : port.toNat / 64 % 4 = 2) (hodd : port.toNat % 2 = 1) :
    s.ioWrite port v = State.emit { s with vdp := (s.vdp.controlWrite v).1 } (s.vdp.controlWrite v).2 := by
  unfold State.ioWrite
  rw [port_high, h, port_odd hodd]
  rfl

end

/-- Settles O28: each row of the map by its lemma above. -/
theorem ioWriteMap : Obligations.IoWriteMap := by
  refine fun s port v => ⟨ioWrite_unmapped, ioWrite_sound, ioWrite_data, fun h hodd => ⟨?_, ioWrite_frame s port v⟩⟩
  rw [ioWrite_control h hodd]
  rfl

end Sys2Proof.Machine
end

section
/-! The line stepper (60_exceptions R630, R631, R634): what one call makes of the VDP, said once, and what `k` calls make of its clock and
of the frame interrupt. -/

namespace Sys2Proof.Machine

/-! ### One line -/

/-- The VDP after a line step that leaves the line counter at `lc` and the line interrupt at `li`, the render hook having drawn `o1` and
`o2` (60_exceptions R630, R634). -/
def Vdp.afterLine (cfg : Config) (d : Vdp) (lc : Byte) (li o1 o2 : Bool) : Vdp :=
  { d with
    status := ⟨d.status.frameInt || decide (d.v = cfg.activeLines), d.status.sprOvf || o1, d.status.sprCol || o2, li⟩
    v := (d.v + 1) % cfg.tv.totalLines
    lineCounter := lc
    vscrollLatch := if (d.v + 1) % cfg.tv.totalLines = 0 then d.reg[9] else d.vscrollLatch
    vdpCycles := d.vdpCycles + cfg.vdpCyclesPerLine }

/-- The line counter's rule: `lc` and `li` are the counter and the line interrupt after the step (60_exceptions R630). -/
structure LineCounterRule (cfg : Config) (d : Vdp) (lc : Byte) (li : Bool) : Prop where
  wraps : d.v ≤ cfg.activeLines → d.lineCounter = 0 → lc = d.reg[10] ∧ li = true
  counts : d.v ≤ cfg.activeLines → d.lineCounter ≠ 0 → lc.toNat + 1 = d.lineCounter.toNat ∧ li = d.status.lineInt
  reloads : cfg.activeLines < d.v → lc = d.reg[10] ∧ li = d.status.lineInt

theorem Vdp.frameIntStep_eq (cfg : Config) (d : Vdp) :
    d.frameIntStep cfg = { d with status.frameInt := d.status.frameInt || decide (d.v = cfg.activeLines) } := by
  unfold Vdp.frameIntStep
  split <;> simp [*]

/-- The counter taken down, where it is not 0 (60_exceptions R630). -/
theorem sub_one_toNat_add_one {b : Byte} (h : b ≠ 0) : (b - 1).toNat + 1 = b.toNat := by
  have hb : b.toNat ≠ 0 := fun h0 => h (BitVec.eq_of_toNat_eq h0)
  have := b.isLt
  rw [toNat_sub_one_byte]
  omega

theorem Vdp.lineCounterStep_rule (cfg : Config) (d : Vdp) :
    ∃ lc li, d.lineCounterStep cfg = { d with lineCounter := lc, status.lineInt := li } ∧ LineCounterRule cfg d lc li := by
  unfold Vdp.lineCounterStep
  by_cases hactive : d.v ≤ cfg.activeLines
  · rw [if_pos hactive]
    by_cases hzero : d.lineCounter = 0
    · rw [if_pos ((lineCounter_wrap _).mpr hzero)]
      exact ⟨_, true, rfl, fun _ _ => ⟨rfl, rfl⟩, fun _ hne => absurd hzero hne, fun hlt => absurd hactive (Nat.not_le.mpr hlt)⟩
    · rw [if_neg (mt (lineCounter_wrap _).mp hzero)]
      exact ⟨_, _, rfl, fun _ h0 => absurd h0 hzero, fun _ hne => ⟨sub_one_toNat_add_one hne, rfl⟩,
        fun hlt => absurd hactive (Nat.not_le.mpr hlt)⟩
  · rw [if_neg hactive]
    exact ⟨_, _, rfl, fun h => absurd h hactive, fun h => absurd h hactive, fun _ => ⟨rfl, rfl⟩⟩

/-- The line step without the hook (60_exceptions R630). -/
theorem Vdp.lineStep_rule (cfg : Config) (d : Vdp) :
    ∃ lc li, d.lineStep cfg = d.afterLine cfg lc li false false ∧ LineCounterRule cfg d lc li := by
  obtain ⟨lc, li, heq, hwraps, hcounts, hreloads⟩ := (d.frameIntStep cfg).lineCounterStep_rule cfg
  refine ⟨lc, li, ?_, ?_⟩
  · rw [Vdp.lineStep, heq, d.frameIntStep_eq cfg]
    simp only [Vdp.advanceLine, Vdp.afterLine, Bool.or_false]
  · rw [d.frameIntStep_eq cfg] at hwraps hcounts hreloads
    exact ⟨hwraps, hcounts, hreloads⟩

/-- What a line step makes of the VDP: the rule of the line counter, and no draws where the hook does not run (60_exceptions R630, R634). -/
theorem vdpLineStep_rule (s : State) :
    ∃ lc li o1 o2, s.vdpLineStep.vdp = s.vdp.afterLine s.cfg lc li o1 o2 ∧ LineCounterRule s.cfg s.vdp lc li ∧
      (hookInvoked s.cfg s.vdp.v = false → o1 = false ∧ o2 = false ∧ s.vdpLineStep.draws = s.draws) := by
  obtain ⟨lc, li, hline, hrule⟩ := s.vdp.lineStep_rule s.cfg
  unfold State.vdpLineStep
  rw [hline]
  cases hhook : hookInvoked s.cfg s.vdp.v with
  | false => exact ⟨lc, li, false, false, rfl, hrule, fun _ => ⟨rfl, rfl, rfl⟩⟩
  | true =>
    refine ⟨lc, li, Config.freeSpriteOverflow s.draws, Config.freeSpriteCollision s.draws, ?_, hrule, fun h => nomatch h⟩
    simp [Vdp.afterLine, Vdp.renderHook]

/-- Away from the last line the hook runs on active lines in mode `line` alone (60_exceptions R634). -/
theorem hookInvoked_eq_false {cfg : Config} {v : Nat} (hwrap : (v + 1) % cfg.tv.totalLines ≠ 0)
    (hmode : cfg.renderMode = .frame ∨ cfg.activeLines ≤ v) : hookInvoked cfg v = false := by
  rw [hookInvoked, Bool.or_eq_false_iff, Bool.and_eq_false_iff]
  refine ⟨beq_false_of_ne hwrap, ?_⟩
  obtain hframe | hinactive := hmode
  · exact .inl (by rw [hframe]; rfl)
  · exact .inr (decide_eq_false (Nat.not_lt.mpr hinactive))

/-- Settles O21, by `vdpLineStep_rule`; the draws by `hookInvoked_eq_false`. -/
theorem lineStepRule : Obligations.LineStepRule := by
  intro s
  obtain ⟨lc, li, o1, o2, hvdp, hrule, hhook⟩ := vdpLineStep_rule s
  have hframe := vdpLineStep_changesOnly s
  rw [hvdp]
  refine ⟨rfl, hrule.wraps, hrule.counts, hrule.reloads, rfl, rfl, rfl, rfl, rfl, rfl, rfl, rfl, rfl, rfl, ⟨o1, o2, rfl, rfl⟩,
    fun hwrap hmode => ?_, hframe⟩
  obtain ⟨rfl, rfl, hdraws⟩ := hhook (hookInvoked_eq_false hwrap hmode)
  exact ⟨Bool.or_false _, Bool.or_false _, hdraws⟩

/-! ### Many lines -/

theorem vdpLineStep_cfg (s : State) : s.vdpLineStep.cfg = s.cfg := by rw [s.vdpLineStep_frame]

/-- What a line step makes of the VDP's clock and of the frame interrupt (60_exceptions R630). -/
theorem vdpLineStep_clock (s : State) :
    s.vdpLineStep.vdp.v = (s.vdp.v + 1) % s.cfg.tv.totalLines ∧
      s.vdpLineStep.vdp.vdpCycles = s.vdp.vdpCycles + s.cfg.vdpCyclesPerLine ∧
      s.vdpLineStep.vdp.status.frameInt = (s.vdp.status.frameInt || decide (s.vdp.v = s.cfg.activeLines)) := by
  obtain ⟨lc, li, o1, o2, hvdp, -⟩ := vdpLineStep_rule s
  rw [hvdp]
  exact ⟨rfl, rfl, rfl⟩

/-- `k` line steps (60_exceptions R631). -/
theorem lineSteps_rule (k : Nat) {s : State} (hv : s.vdp.v < s.cfg.tv.totalLines) :
    (lineSteps k s).vdp.v = (s.vdp.v + k) % s.cfg.tv.totalLines ∧
      (lineSteps k s).vdp.vdpCycles = s.vdp.vdpCycles + s.cfg.vdpCyclesPerLine * k ∧
      ((lineSteps k s).vdp.status.frameInt = true ↔
        s.vdp.status.frameInt = true ∨ ∃ j < k, (s.vdp.v + j) % s.cfg.tv.totalLines = s.cfg.activeLines) := by
  induction k generalizing s with
  | zero => exact ⟨(Nat.mod_eq_of_lt hv).symm, rfl, by simp [lineSteps]⟩
  | succ k ih =>
    obtain ⟨hline, hcycles, hint⟩ := vdpLineStep_clock s
    have hcfg := vdpLineStep_cfg s
    have hlt : s.vdpLineStep.vdp.v < s.vdpLineStep.cfg.tv.totalLines := by
      rw [hline, hcfg]
      exact Nat.mod_lt _ (Nat.zero_lt_of_lt hv)
    obtain ⟨hv', hcycles', hint'⟩ := ih hlt
    rw [hcfg, hline, Nat.mod_add_mod] at hv'
    rw [hcfg, hcycles] at hcycles'
    simp only [hcfg, hline, hint, Nat.mod_add_mod, Bool.or_eq_true, decide_eq_true_eq, or_assoc] at hint'
    refine ⟨?_, ?_, ?_⟩
    · rw [lineSteps, hv', Nat.add_assoc, Nat.add_comm 1]
    · rw [lineSteps, hcycles', Nat.mul_add_one, Nat.add_assoc, Nat.add_comm s.cfg.vdpCyclesPerLine]
    · rw [lineSteps, hint', Nat.exists_lt_succ_left, Nat.add_zero s.vdp.v, Nat.mod_eq_of_lt hv]
      simp only [Nat.add_assoc, Nat.add_comm 1]

/-- Of the calls of one frame exactly one is entered on a given line (60_exceptions R631). -/
theorem exists_unique_line {v a n : Nat} (hv : v < n) (ha : a < n) : ∃ j < n, ∀ j' < n, (v + j') % n = a ↔ j' = j := by
  have hmod (j' : Nat) (hj : j' < n) : (v + j') % n = if v + j' < n then v + j' else v + j' - n := by
    split
    · exact Nat.mod_eq_of_lt ‹_›
    · rw [Nat.mod_eq_sub_mod (by omega), Nat.mod_eq_of_lt (by omega)]
  obtain hlt | hle := Nat.lt_or_ge a v
  · refine ⟨a + n - v, by omega, fun j' hj => ?_⟩
    rw [hmod j' hj]
    split <;> omega
  · refine ⟨a - v, by omega, fun j' hj => ?_⟩
    rw [hmod j' hj]
    split <;> omega

/-- Settles O22, by `lineSteps_rule` and `exists_unique_line`. -/
theorem frameOfLineSteps : Obligations.FrameOfLineSteps := by
  intro s k hv
  obtain ⟨hline, hcycles, hint⟩ := lineSteps_rule k hv
  refine ⟨hline, hcycles, hint, ?_, exists_unique_line hv⟩
  rw [(lineSteps_rule _ hv).1, Nat.add_mod_right, Nat.mod_eq_of_lt hv]

end Sys2Proof.Machine
end

section
/-! The scheduler (60_exceptions R651, R652): the CPU catches up with the VDP after each line, past its target by less than one CPU step,
and a frame ends with the vertical counter back at 0. -/

namespace Sys2Proof.Machine

/-! ### What the CPU's steps leave alone -/

/-- The clock of the VDP: the line it will process next and its cycle counter (10_state R53, R56). -/
def Vdp.clock (d : Vdp) : Nat × Nat := (d.v, d.vdpCycles)

theorem ioRead_clock (s : State) (port : Word) : (s.ioRead port).2.vdp.clock = s.vdp.clock := by
  unfold State.ioRead
  split <;> rfl

theorem ioWrite_clock (s : State) (port : Word) (v : Byte) : (s.ioWrite port v).vdp.clock = s.vdp.clock := by
  unfold State.ioWrite
  split
  case h_3 | h_4 => simp [Vdp.clock]
  all_goals rfl

theorem State.blockIn_clock (s : State) (k : Word) : (s.blockIn k).vdp.clock = s.vdp.clock := ioRead_clock s s.bc

theorem State.blockOut_clock (s : State) (k : Word) : (s.blockOut k).vdp.clock = s.vdp.clock := by
  rw [(s.blockOut_port k).1, ioWrite_clock]

/-- The VDP is no register (30_encoding R145). -/
theorem regPart_cons_contains_vdp (r : Reg8) (ps : List Part) : (regPart r :: ps).contains .vdp = ps.contains .vdp := by
  cases r <;> rfl

/-- Wherever the outcome goes on, the VDP's clock stands as it was. -/
def KeepsClock (s : State) (o : Out) : Prop := ∀ t, o = .next t → t.vdp.clock = s.vdp.clock

theorem KeepsClock.finish {s u : State} {n : Nat} (h : u.vdp.clock = s.vdp.clock) : KeepsClock s (finish n u) := by
  rintro t ⟨⟩
  exact h

theorem KeepsClock.repeatWhile {s u : State} {again : Bool} (h : u.vdp.clock = s.vdp.clock) : KeepsClock s (repeatWhile again u) := by
  rw [repeatWhile_eq]
  rintro t ⟨⟩
  exact h

/-- An instruction that may not change the VDP. -/
theorem keepsClock_of_written {i : Instr} {s : State} (hi : isPrefixRow i = false)
    (hm : (writtenParts s.cfg i).contains .vdp = false) : KeepsClock s (exec i s) := by
  intro t h
  have hvdp : t.vdp = s.vdp := exec_frame hi h .vdp fun hmem => by
    rw [List.contains_iff_mem.mpr (List.mem_of_ne_of_mem (by decide) hmem)] at hm
    cases hm
  rw [hvdp]

/-- No instruction moves the VDP's clock: only the ports reach the VDP (60_exceptions R630, R640, R641). -/
theorem exec_clock (i : Instr) (s : State) (hi : isPrefixRow i = false) : KeepsClock s (exec i s) := by
  cases i with
  | inAN | inC => exact .finish (ioRead_clock s _)
  | inRC r => exact .finish ((congrArg Vdp.clock (State.setR8_vdp ..)).trans (ioRead_clock s _))
  | outNA | outCR | outC0 => exact .finish (ioWrite_clock s _ _)
  | ini | ind => exact .finish (s.blockIn_clock _)
  | inir | indr => exact .repeatWhile (s.blockIn_clock _)
  | outi | outd => exact .finish (s.blockOut_clock _)
  | otir | otdr => exact .repeatWhile (s.blockOut_clock _)
  -- the destination is an operand
  | ldRN | ldRMemHl | ldRR | ldRMemIx | ldRMemIy | incR | decR | rlcR | rrcR | rlR | rrR | slaR | sraR | sllR | srlR
  | rlcMemIxR | rlcMemIyR | rrcMemIxR | rrcMemIyR | rlMemIxR | rlMemIyR | rrMemIxR | rrMemIyR | slaMemIxR | slaMemIyR
  | sraMemIxR | sraMemIyR | sllMemIxR | sllMemIyR | srlMemIxR | srlMemIyR | resR | setR | resMemIxR | resMemIyR
  | setMemIxR | setMemIyR => exact keepsClock_of_written hi (regPart_cons_contains_vdp _ _)
  | ldPPIx dst | ldPPIy dst => cases dst <;> exact keepsClock_of_written hi rfl
  | ldDdNn dd | incSs dd | decSs dd => cases dd <;> exact keepsClock_of_written hi rfl
  | ldDdMemNn dd => cases dd <;> exact keepsClock_of_written hi rfl
  | popQq qq => cases qq <;> exact keepsClock_of_written hi rfl
  | reti =>
    refine keepsClock_of_written hi ?_
    show (Part.sp :: .pc :: retiParts s.cfg.retiIffPolicy).contains .vdp = false
    cases s.cfg.retiIffPolicy <;> rfl
  -- every other instruction has a table entry without the VDP
  | _ => exact keepsClock_of_written hi rfl

/-- The interrupt unit does not touch the VDP (60_exceptions R610, R616). -/
theorem interruptResolve_vdp {s t : State} (h : s.interruptResolve = .next t) : t.vdp = s.vdp := by
  obtain ⟨u, u', hu, -, hp⟩ | ⟨r, hr, -⟩ := interruptResolve_inStep s s.events
  · obtain rfl : u = t := Host.Outcome.next.inj (hu.symm.trans h)
    exact hp.frame .vdp (by decide)
  · rw [hr] at h; cases h

theorem cpuStep_clock {s t : State} (h : s.cpuStep = .next t) : t.vdp.clock = s.vdp.clock := by
  obtain ⟨u, hu, hr⟩ := cpuStep_next h
  rw [interruptResolve_vdp hr]
  obtain ⟨-, rfl⟩ | ⟨-, hexec⟩ := hu
  · rfl
  · exact exec_clock s.fetched s.afterFetch (fetched_not_prefixRow s) u hexec

/-! ### Runs of the CPU -/

/-- A step of the machine that is the CPU's (60_exceptions R651). -/
def CpuMoves (s t : State) : Prop := s.cpuTurn = true ∧ s.cpuStep = .next t

/-- A run of the CPU between two lines: steps that are its own. -/
abbrev CpuRun : State → State → Prop := Relation.ReflTransGen CpuMoves

theorem CpuMoves.step {s t : State} (h : CpuMoves s t) : step s = .next t := (if_pos h.1).trans h.2

/-- What a run of the CPU keeps: the parameters, the VDP's clock and the invariants. -/
structure CpuKeeps (s t : State) : Prop where
  cfg : t.cfg = s.cfg
  clock : t.vdp.clock = s.vdp.clock
  inv : s.Inv → t.Inv

theorem CpuMoves.keeps {s t : State} (h : CpuMoves s t) : CpuKeeps s t := by
  obtain ⟨-, -, -, -, -, hcfg, -⟩ := systemRegisterWriters s t h.step
  exact ⟨hcfg, cpuStep_clock h.2, fun hs => stepKeepsInvariant s t hs h.step⟩

theorem CpuRun.keeps {s t : State} (h : CpuRun s t) : CpuKeeps s t := by
  induction h with
  | refl => exact ⟨rfl, rfl, id⟩
  | tail _ hmove ih =>
    obtain ⟨hcfg, hclock, hinv⟩ := hmove.keeps
    exact ⟨hcfg.trans ih.cfg, hclock.trans ih.clock, hinv ∘ ih.inv⟩

theorem State.target_congr {s t : State} (h : t.vdp.clock = s.vdp.clock) : t.target = s.target := by
  rw [State.target, State.target, (Prod.mk.inj h).2]

/-- A run of the CPU that starts less than 42 cycles past its target stays so, since a step is taken before the target alone and costs at
most 42 (60_exceptions R652). -/
theorem CpuRun.overshoot {s t : State} (h : CpuRun s t) (hcosts : standardCosts s.cfg) (hs : s.cpu.cycles < s.target + 42) :
    t.cpu.cycles < t.target + 42 := by
  induction h with
  | refl => exact hs
  | @tail u w hrun hmove _ =>
    have hcfg : standardCosts u.cfg := (CpuRun.keeps hrun).cfg ▸ hcosts
    have hbehind : u.cpu.cycles < u.target := of_decide_eq_true hmove.1
    have hcost := (cpuStepCostBounds u w hmove.2).2 hcfg
    have htarget := State.target_congr hmove.keeps.clock
    omega

/-! ### Catching up -/

/-- Catching up that goes on is a run of the CPU, up to its target where the fuel is at least the cycles it is behind (60_exceptions
R651). -/
theorem catchUp_next {fuel : Nat} {s t : State} (h : catchUp fuel s = .next t) :
    CpuRun s t ∧ (s.target ≤ s.cpu.cycles + fuel → t.target ≤ t.cpu.cycles) := by
  induction fuel generalizing s with
  | zero =>
    obtain rfl := Host.Outcome.next.inj h
    exact ⟨.refl, id⟩
  | succ fuel ih =>
    cases hturn : s.cpuTurn with
    | false =>
      rw [catchUp, hturn] at h
      obtain rfl := Host.Outcome.next.inj h
      exact ⟨.refl, fun _ => Nat.not_lt.mp (of_decide_eq_false hturn)⟩
    | true =>
      rw [catchUp, hturn, if_pos rfl] at h
      cases hstep : s.cpuStep with
      | fault r | refused r => rw [hstep] at h; cases h
      | next u =>
        rw [hstep] at h
        obtain ⟨hrun, hreach⟩ := ih h
        have hmove : CpuMoves s u := ⟨hturn, hstep⟩
        refine ⟨.head hmove hrun, fun hfuel => hreach ?_⟩
        have hcost := (cpuStepCostBounds s u hstep).1
        have htarget := State.target_congr hmove.keeps.clock
        omega

/-- With an RST on the bus the CPU catches up (60_exceptions R601, R613). -/
theorem catchUp_goesOn {s : State} (hrst : busByteIsRst s.cfg.intBusByte = true) (fuel : Nat) : goesOn (catchUp fuel s) := by
  induction fuel generalizing s with
  | zero => exact ⟨s, rfl⟩
  | succ fuel ih =>
    cases hturn : s.cpuTurn with
    | false => exact ⟨s, if_neg (by simp [hturn])⟩
    | true =>
      obtain ⟨u, hu⟩ := cpuStep_goesOn hrst
      have hmove : CpuMoves s u := ⟨hturn, hu⟩
      rw [catchUp, if_pos hturn, hu]
      exact ih (hmove.keeps.cfg ▸ hrst)

/-! ### Lines -/

theorem vdpLineStep_cpu (s : State) : s.vdpLineStep.cpu = s.cpu := by rw [s.vdpLineStep_frame]

theorem vdpLineStep_inv {s : State} (h : s.Inv) : s.vdpLineStep.Inv := (Together.line (s' := s) .start).inv h

/-- One pass of the scheduler's loop that goes on: a line step, then a run of the CPU up to its target (60_exceptions R651). -/
theorem runLine_next {s t : State} (h : s.runLine = .next t) : CpuRun s.vdpLineStep t ∧ t.target ≤ t.cpu.cycles := by
  obtain ⟨hrun, hreach⟩ := catchUp_next h
  exact ⟨hrun, hreach (by omega)⟩

/-- Settles O24: the line step puts the target no lower, and the run of the CPU after it keeps the bound, `CpuRun.overshoot`. -/
theorem catchUpOvershoot : Obligations.CatchUpOvershoot := by
  intro s t hcosts hs h
  obtain ⟨hrun, hreach⟩ := runLine_next h
  refine ⟨hreach, hrun.overshoot (by rwa [vdpLineStep_cfg]) ?_⟩
  obtain ⟨-, hcycles, -⟩ := vdpLineStep_clock s
  rw [vdpLineStep_cpu, State.target, hcycles]
  omega

/-! ### Frames -/

/-- What `n` passes of the scheduler's loop have done: the VDP's clock is `n` lines on, the CPU has caught up, the parameters and the
invariants are kept (60_exceptions R651). -/
structure AfterLines (n : Nat) (s t : State) : Prop where
  cfg : t.cfg = s.cfg
  v : t.vdp.v = (s.vdp.v + n) % s.cfg.tv.totalLines
  vdpCycles : t.vdp.vdpCycles = s.vdp.vdpCycles + s.cfg.vdpCyclesPerLine * n
  caughtUp : t.target ≤ t.cpu.cycles
  inv : s.Inv → t.Inv

theorem AfterLines.trans {m n : Nat} {s u t : State} (h : AfterLines m s u) (k : AfterLines n u t) : AfterLines (m + n) s t where
  cfg := k.cfg.trans h.cfg
  v := by rw [k.v, h.v, h.cfg, Nat.mod_add_mod, Nat.add_assoc]
  vdpCycles := by rw [k.vdpCycles, h.vdpCycles, h.cfg, Nat.mul_add, Nat.add_assoc]
  caughtUp := k.caughtUp
  inv := k.inv ∘ h.inv

/-- With an RST on the bus one pass goes on and does one line. -/
theorem runLine_completes {s : State} (hrst : busByteIsRst s.cfg.intBusByte = true) : ∃ t, s.runLine = .next t ∧ AfterLines 1 s t := by
  obtain ⟨t, ht⟩ : goesOn s.runLine := catchUp_goesOn (by rwa [vdpLineStep_cfg]) _
  obtain ⟨hrun, hreach⟩ := runLine_next ht
  obtain ⟨hcfg, hclock, hinv⟩ := hrun.keeps
  obtain ⟨hline, hcycles, -⟩ := vdpLineStep_clock s
  obtain ⟨hv', hcycles'⟩ := Prod.mk.inj hclock
  refine ⟨t, ht, hcfg.trans (vdpLineStep_cfg s), hv'.trans hline, ?_, hreach, fun hs => hinv (vdpLineStep_inv hs)⟩
  rw [hcycles', hcycles, Nat.mul_one]

/-- From line `v` the loop ends after the `TOTAL_LINES - v` lines left in the frame (60_exceptions R651). -/
theorem frameLines_completes {k fuel : Nat} {s : State} (hrst : busByteIsRst s.cfg.intBusByte = true)
    (hk : s.vdp.v + (k + 1) = s.cfg.tv.totalLines) (hfuel : k < fuel) :
    ∃ t, frameLines fuel s = .next t ∧ AfterLines (k + 1) s t ∧ t.vdp.v = 0 := by
  induction k generalizing fuel s with
  | zero =>
    obtain ⟨fuel, rfl⟩ := Nat.exists_eq_add_one_of_ne_zero (Nat.ne_zero_of_lt hfuel)
    obtain ⟨t, ht, hline⟩ := runLine_completes hrst
    have hv : t.vdp.v = 0 := by rw [hline.v, hk, Nat.mod_self]
    refine ⟨t, ?_, hline, hv⟩
    rw [frameLines, ht, bindOut, if_pos hv]
  | succ k ih =>
    obtain ⟨fuel, rfl⟩ := Nat.exists_eq_add_one_of_ne_zero (Nat.ne_zero_of_lt hfuel)
    obtain ⟨u, hu, hline⟩ := runLine_completes hrst
    have hv : u.vdp.v = s.vdp.v + 1 := hline.v.trans (Nat.mod_eq_of_lt (by omega))
    obtain ⟨t, ht, hrest, ht0⟩ := ih (fuel := fuel) (hline.cfg ▸ hrst) (by rw [hline.cfg]; omega) (by omega)
    refine ⟨t, ?_, by rw [Nat.add_comm]; exact hline.trans hrest, ht0⟩
    rw [frameLines, hu, bindOut, if_neg (by omega), ht]

/-- Settles O23: from the line the counter is at, the loop makes the lines left in the frame and ends, `frameLines_completes`. -/
theorem runFrameCompletes : Obligations.RunFrameCompletes := by
  intro s hs h7 h192
  have hrst : busByteIsRst s.cfg.intBusByte = true := (busByteIsRst_eq_decide _).trans (decide_eq_true ⟨h7, h192⟩)
  have hv : s.vdp.v < s.cfg.tv.totalLines := hs.vdp.v
  obtain ⟨k, hk⟩ := Nat.exists_eq_add_of_lt hv
  obtain ⟨t, ht, hlines, ht0⟩ := frameLines_completes hrst hk.symm (by omega : k < s.cfg.tv.totalLines)
  refine ⟨t, ht, ht0, hlines.caughtUp, hlines.inv hs, ?_⟩
  rw [hlines.vdpCycles, show s.cfg.tv.totalLines - s.vdp.v = k + 1 by omega]

end Sys2Proof.Machine
end

section
/-! Session construction (60_exceptions R600; 10_state R40, R44, R61 to R64; 20_memory R96): the pages of the ROM image, the fresh mapper on
each variant, and the fresh session. -/

namespace Sys2Proof.Machine

/-! ### The ROM image -/

/-- Page `k` of the image holds the ROM's bytes from `k` times 8 KiB on (10_state R40). -/
theorem romImagePages_getElem? {n k : Nat} (rom : List Byte) (hk : k < n) :
    (romImagePages n rom)[k]? = some (Memory.ofBytes 0 ((rom.drop (k * pageSize)).take pageSize)) := by
  induction k generalizing n rom with
  | zero =>
    obtain ⟨n, rfl⟩ := Nat.exists_eq_add_one_of_ne_zero (Nat.ne_zero_of_lt hk)
    rw [Nat.zero_mul]
    rfl
  | succ k ih =>
    obtain ⟨n, rfl⟩ := Nat.exists_eq_add_one_of_ne_zero (Nat.ne_zero_of_lt hk)
    rw [romImagePages, List.getElem?_cons_succ, ih (rom.drop pageSize) (Nat.lt_of_succ_lt_succ hk), List.drop_drop, Nat.succ_mul,
      Nat.add_comm]

@[simp] theorem romImagePages_length (n : Nat) (rom : List Byte) : (romImagePages n rom).length = n := by
  induction n generalizing rom with
  | zero => rfl
  | succ n ih => rw [romImagePages, List.length_cons, ih]

/-- Every page of the image is canonical (10_state R40). -/
theorem romImagePages_wf {n : Nat} {rom : List Byte} {p : Memory} (hp : p ∈ romImagePages n rom) : Memory.wf pageSize p = true := by
  induction n generalizing rom with
  | zero => cases hp
  | succ n ih =>
    obtain rfl | hp := List.mem_cons.mp hp
    · exact Memory.wfFrom_ofBytes pageSize 0 (rom.take pageSize) (by rw [Nat.zero_add]; exact List.length_take_le ..)
    · exact ih hp

/-! ### The fresh mapper -/

section
variable (count : CartRamBanks) (variant : Variant)

/-- A fresh session maps no cartridge RAM and has none allocated (10_state R62). -/
theorem Bank.fresh_unallocated : (Bank.fresh count variant).mapped = none ∧ ∀ o ∈ (Bank.fresh count variant).ram, o = none := by
  cases variant with
  | sega => exact ⟨by simp [Bank.fresh, Bank.mapped, SegaBank.mapped, SegaBank.reset], fun o ho => List.eq_of_mem_replicate ho⟩
  | codemasters =>
    exact ⟨by simp [Bank.fresh, Bank.mapped, CodemastersBank.mapped, CodemastersBank.reset], fun o ho => List.eq_of_mem_replicate ho⟩

variable (n : Nat) (rom : List Byte)

theorem Mapper.fresh_inv (hn : 1 ≤ n) : (Mapper.fresh count variant n rom).Inv := by
  obtain ⟨hmapped, hram⟩ := Bank.fresh_unallocated count variant
  refine ⟨hn, ?_, Bank.ok_of_unallocated hram hmapped, rfl, fun p hp => ?_⟩
  · exact Nat.lt_add_one_of_le (romImagePages_length n rom).ge
  · obtain rfl | hp := List.mem_cons.mp hp
    · rfl
    · exact romImagePages_wf hp

/-- A byte of the image reads as the ROM's (10_state R40). -/
theorem Mapper.fresh_image {k o : Nat} (hk : k < n) (ho : o < pageSize) (hlen : n * pageSize ≤ rom.length) :
    some ((Mapper.fresh count variant n rom).pageByte (1 + k) o) = rom[k * pageSize + o]? := by
  have hpage : (Mapper.fresh count variant n rom).pages.getD (1 + k) [] =
      Memory.ofBytes 0 ((rom.drop (k * pageSize)).take pageSize) := by
    rw [List.getD_eq_getElem?_getD, Nat.add_comm]
    show ((romImagePages n rom)[k]?).getD [] = _
    rw [romImagePages_getElem? rom hk, Option.getD_some]
  have hlt : k * pageSize + o < rom.length := by
    have := Nat.mul_le_mul_right pageSize (Nat.succ_le_of_lt hk)
    rw [Nat.succ_mul] at this
    omega
  have hread := Memory.read_ofBytes 0 ((rom.drop (k * pageSize)).take pageSize) o
  rw [Nat.zero_add] at hread
  rw [Mapper.pageByte, hpage, hread, List.getD_eq_getElem?_getD, List.getElem?_take_of_lt ho, List.getElem?_drop,
    List.getElem?_eq_getElem hlt, Option.getD_some]

end

/-- The table and the mask of a fresh Sega session (10_state R62). -/
theorem remapOf_fresh_sega (count : CartRamBanks) (n : Nat) : remapOf n (Bank.fresh count .sega) =
    (#v[1 + 0 % n, 1 + 1 % n, 1 + 2 % n, 1 + 3 % n, 1 + 4 % n, 1 + 5 % n, 0, 0], 0b11000000) :=
  segaRemap_off n _ (Bank.fresh_unallocated count .sega).1

/-- The table and the mask of a fresh Codemasters session (10_state R62). -/
theorem remapOf_fresh_codemasters (count : CartRamBanks) (n : Nat) : remapOf n (Bank.fresh count .codemasters) =
    (#v[1 + 0 % n, 1 + 1 % n, 1 + 2 % n, 1 + 3 % n, 1 + 0 % n, 1 + 1 % n, 0, 0], 0b11000000) :=
  codemastersRemap_off n _ (Bank.fresh_unallocated count .codemasters).1

theorem freshMapper_fresh (count : CartRamBanks) (variant : Variant) (rom : List Byte) :
    FreshMapper count variant rom (Mapper.fresh count variant (rom.length / pageSize) rom) where
  romPages := rfl
  pages := by
    rw [Nat.add_comm]
    exact congrArg (· + 1) (romImagePages_length _ rom)
  systemRam _ := rfl
  image k o hk ho := Mapper.fresh_image count variant _ rom hk ho (Nat.div_mul_le_self ..)
  sega := by
    rintro rfl
    refine ⟨rfl, fun k => ?_⟩
    show (remapOf _ (Bank.fresh count .sega)).1[k] = _
    rw [remapOf_fresh_sega]
    fin_cases k <;> rfl
  codemasters := by
    rintro rfl
    refine ⟨rfl, fun k => ?_⟩
    show (remapOf _ (Bank.fresh count .codemasters)).1[k] = _
    rw [remapOf_fresh_codemasters]
    fin_cases k <;> rfl
  writable := by
    show (remapOf _ (Bank.fresh count variant)).2 = _
    cases variant with
    | sega => rw [remapOf_fresh_sega]
    | codemasters => rw [remapOf_fresh_codemasters]

/-! ### The fresh session -/

theorem freshCpu_fresh {g : InitGpr} {s : State} (h : s.cpu = Cpu.fresh g) : FreshCpu g s := by
  constructor <;> simp [h, Cpu.fresh, Cpu.reset, State.bc, State.de, State.hl]

theorem freshVdp_reset : FreshVdp Vdp.reset := by
  constructor <;> simp [Vdp.reset, Memory.read, memoryDefault]

/-- The event of construction, by the number of pages (20_memory R96). -/
theorem constructionEvents_eq (n : Nat) :
    ((∃ k, n = 2 ^ k) → constructionEvents n = []) ∧ ((¬∃ k, n = 2 ^ k) → constructionEvents n = [.nonPowerOfTwoBanks n]) := by
  constructor
  · rintro ⟨k, rfl⟩
    exact if_pos (by rw [Nat.log2_two_pow])
  · exact fun hn => if_neg fun h => hn ⟨n.log2, h.symm⟩

/-- Settles O13: the two branches of `newSession`, the fresh mapper by `Mapper.fresh_inv` and `freshMapper_fresh`. -/
theorem newSessionState : Obligations.NewSessionState := by
  refine fun cfg variant rom => ⟨fun hbad => if_pos hbad, fun hpos hpages => ?_⟩
  have hn : 1 ≤ rom.length / pageSize := Nat.div_pos (Nat.le_of_dvd (Nat.pos_of_ne_zero hpos) (Nat.dvd_of_mod_eq_zero hpages)) (by decide)
  have hram : (Bank.fresh cfg.cartRamBanks variant).ram.length = cartRamCount cfg (Bank.fresh cfg.cartRamBanks variant) := by
    cases variant with
    | sega | codemasters => exact List.length_replicate
  have hlines : 0 < cfg.tv.totalLines := by cases cfg.tv <;> decide
  obtain ⟨hpower, hother⟩ := constructionEvents_eq (rom.length / pageSize)
  refine ⟨_, _, if_neg (not_or.mpr ⟨hpos, not_not.mpr hpages⟩), ?_, rfl, freshMapper_fresh .., freshCpu_fresh rfl, freshVdp_reset,
    rfl, rfl, rfl, hpower, hother⟩
  exact ⟨Mapper.fresh_inv _ _ _ _ hn, hram, hlines, rfl⟩

end Sys2Proof.Machine
end
